-- ==== Sys2Proof/Word.lean ====
section
/-! DEFINITION. The word types of the L416 and the fixed-length bank of like things (a register file indexed by
agent, line or pair), with the plainest operations on it. -/

namespace Sys2Proof

/-- One byte crossing an agent port. -/
abbrev Byte := BitVec 8

/-- A two-byte field: a ballot number or a sequence number, both of which wrap at 65536. -/
abbrev Half := BitVec 16

/-- A cycle number: 32 bits, wrapping from 4294967295 to 0 (R3). -/
abbrev Cycle := BitVec 32

/-- Agent n is the session on port Pn (section 2.1), so one number names both. -/
abbrev Agent := Fin 4

/-- A drive line D0–D15. -/
abbrev Drive := Fin 16

/-- A sense line S0–S7. -/
abbrev Sense := Fin 8

/-- A pair k: the drive lines D2k and D2k+1. -/
abbrev Pair := Fin 8

/-- A fixed number of like things, indexed from 0. -/
abbrev Bank (α : Type) (n : Nat) := Vector α n

variable {α : Type} {n : Nat}

/-- The entry at index `i`. -/
def Bank.read (b : Bank α n) (i : Fin n) : α := b[i]

/-- The bank with the entry at index `i` replaced. -/
def Bank.write (b : Bank α n) (i : Fin n) (x : α) : Bank α n := b.set i x

/-- The bank whose entry at index `i` is `f i`. -/
def Bank.build (f : Fin n → α) : Bank α n := ⟨⟨List.ofFn f⟩, by simp⟩

/-- The bank with the same entry everywhere. -/
def Bank.fill (n : Nat) (x : α) : Bank α n := Bank.build fun _ => x

@[simp] theorem Bank.read_build (f : Fin n → α) (i : Fin n) : (Bank.build f).read i = f i := by
  simp [Bank.read, Bank.build, Vector.getElem_mk]

@[simp] theorem Bank.read_fill (x : α) (i : Fin n) : (Bank.fill n x).read i = x := by
  simp [Bank.fill]

theorem Bank.read_write (b : Bank α n) (i j : Fin n) (x : α) :
    (b.write i x).read j = if j = i then x else b.read j := by
  unfold Bank.read Bank.write
  simp only [Fin.getElem_fin, Vector.getElem_set, Fin.ext_iff, eq_comm]

@[simp] theorem Bank.read_write_self (b : Bank α n) (i : Fin n) (x : α) : (b.write i x).read i = x := by
  simp [Bank.read_write]

theorem Bank.read_write_of_ne (b : Bank α n) {i j : Fin n} (x : α) (h : j ≠ i) :
    (b.write i x).read j = b.read j := by
  simp [Bank.read_write, h]

/-- Two banks that read alike everywhere are equal. -/
theorem Bank.ext_read {b c : Bank α n} (h : ∀ i, b.read i = c.read i) : b = c := by
  apply Vector.ext
  intro i hi
  exact h ⟨i, hi⟩

@[simp] theorem Bank.write_read_self (b : Bank α n) (i : Fin n) : b.write i (b.read i) = b := by
  apply Bank.ext_read
  intro j
  rw [Bank.read_write]
  split
  · next h => rw [h]
  · rfl

@[simp] theorem Bank.write_write (b : Bank α n) (i : Fin n) (x y : α) : (b.write i x).write i y = b.write i y := by
  apply Bank.ext_read
  intro j
  simp only [Bank.read_write]
  split <;> rfl

end Sys2Proof
end

