-- ==== Sys2Proof/Config.lean ====
section
/-! DEFINITION. What the part fixes once and for all (capacities, clock ratios), and the free values: constants with
no body, so that no proof can see what they are. -/

namespace Sys2Proof.Config

/-- Responses a port holds (R161). -/
def responseCapacity : Nat := 4

/-- Notices a session's queue holds (R153). -/
def noticeCapacity : Nat := 8

/-- Capture records a session's queue holds (section 7.5). -/
def captureCapacity : Nat := 32

/-- Handles 0–127 (R55), and the largest quota (R135). -/
def entryCapacity : Nat := 128

/-- The largest payload of a command frame, in bytes (R164). -/
def payloadLimit : Nat := 60

/-- Entries on one page of READ_STAGED or READ_ACTIVE (section 4.5). -/
def pageSize : Nat := 5

/-- REFCLK periods between two advances of the lease clock (R18). -/
def leaseDivider : Nat := 40000

/-- Milliseconds in one step of a lease interval or a ballot deadline (R26, R138). -/
def stepMs : Nat := 10

/-- FREE VALUE. Which of several events taken together is taken first, where the spec leaves the order open and no
command gives it (R34 and the other rules on events taken together). It is applied to `State.freeCount`, which the
machine advances at every choice. Log entry 6. -/
opaque choice : Nat → Nat

/-- FREE VALUE. A byte that stands where a field is absent and section 11.2 states no value for it, given the tag of the
response and the byte's place in its field. Log entry 18. -/
opaque absentByte : Byte → Nat → Byte

end Sys2Proof.Config
end

