-- ==== Sys2Proof/Syntax.lean ====
section
/-! DEFINITION. The commands the block takes: one constructor for each row of spec/opcode_table.json. -/

namespace Sys2Proof

/-- The electrical level of a pin or the filtered level of a path. -/
inductive Level where
  | low
  | high
  deriving DecidableEq, Repr

/-- The direction of a filtered edge on a capture path (R119). -/
inductive Edge where
  | rising
  | falling
  deriving DecidableEq, Repr

/-- A command of the block. The command frames (`openSession` to `unknownCommand`) carry the port, the tag and the
payload bytes of a frame that is complete (R164, R165); the other rows are steps of a port, of the clocks and of the
lines. -/
inductive Instr where
  -- command frames
  | openSession (p : Agent) (tag : Byte) (payload : List Byte)
  | closeNow (p : Agent) (tag : Byte) (payload : List Byte)
  | closeAtBoundary (p : Agent) (tag : Byte) (payload : List Byte)
  | renew (p : Agent) (tag : Byte) (payload : List Byte)
  | status (p : Agent) (tag : Byte) (payload : List Byte)
  | reserve (p : Agent) (tag : Byte) (payload : List Byte)
  | release (p : Agent) (tag : Byte) (payload : List Byte)
  | stageEntry (p : Agent) (tag : Byte) (payload : List Byte)
  | amendEntry (p : Agent) (tag : Byte) (payload : List Byte)
  | withdrawEntry (p : Agent) (tag : Byte) (payload : List Byte)
  | clearStaging (p : Agent) (tag : Byte) (payload : List Byte)
  | readStaged (p : Agent) (tag : Byte) (payload : List Byte)
  | readActive (p : Agent) (tag : Byte) (payload : List Byte)
  | commit (p : Agent) (tag : Byte) (payload : List Byte)
  | abandon (p : Agent) (tag : Byte) (payload : List Byte)
  | forceLine (p : Agent) (tag : Byte) (payload : List Byte)
  | unforceLine (p : Agent) (tag : Byte) (payload : List Byte)
  | setSense (p : Agent) (tag : Byte) (payload : List Byte)
  | armSense (p : Agent) (tag : Byte) (payload : List Byte)
  | disarmSense (p : Agent) (tag : Byte) (payload : List Byte)
  | readCaptures (p : Agent) (tag : Byte) (payload : List Byte)
  | propose (p : Agent) (tag : Byte) (payload : List Byte)
  | vote (p : Agent) (tag : Byte) (payload : List Byte)
  | retract (p : Agent) (tag : Byte) (payload : List Byte)
  | readSettings (p : Agent) (tag : Byte) (payload : List Byte)
  | readBallot (p : Agent) (tag : Byte) (payload : List Byte)
  | readNotices (p : Agent) (tag : Byte) (payload : List Byte)
  | unknownCommand (p : Agent) (code : Byte) (tag : Byte) (payload : List Byte)
  -- steps of a port
  | transactionStart (p : Agent)
  | send (p : Agent)
  | fetch (p : Agent)
  /-- `value` is the transaction byte: 00H or any unassigned value (R163). -/
  | peek (p : Agent) (value : Byte)
  | portReset (p : Agent)
  | transactionEnd (p : Agent)
  -- resets and REFCLK
  | deviceReset
  | resetRelease
  | refclkStop
  | refclkResume
  -- time base, drive engine, capture
  | countAdvance
  | pulseEnd (d : Drive)
  | guardEnd (d : Drive)
  | budgetRunOut
  | triggerEdge
  /-- `level` is the filtered level the gate path takes: HIGH makes the gate active (R5). -/
  | gateChange (level : Level)
  | captureEdge (line : Sense) (edge : Edge)
  -- lease clock and deadlines
  | leaseClockAdvance
  | leaseExpiry (a : Agent)
  | deadlineExpiry
  /-- `levels` are the levels sampled on S0–S7 in this REFCLK period (R5, R119). -/
  | refclkPeriod (levels : Bank Level 8)
  /-- `value` is the byte shifted in, which the part ignores where it is not reading (R163). -/
  | byteShifted (p : Agent) (value : Byte)
  deriving DecidableEq, Repr

end Sys2Proof
end

