-- ==== Sys2Proof/Machine/Records.lean ====
section
/-! DEFINITION. The records the blocks of the L416 hold: settings, entries, lines, sessions, notices, ballots,
responses and ports, each with the fields and values its chapter gives. -/

namespace Sys2Proof.Machine

/-! ## Shared settings (R135, R136) -/

/-- The way the time base starts and advances (section 1.3). -/
inductive Mode where
  | free
  | triggered
  | restart
  | gated
  deriving DecidableEq, Repr

/-- The run field of a proposal (R136): an instruction to the time base, not part of the current record. -/
inductive RunField where
  | run
  | stop
  deriving DecidableEq, Repr

/-- The setup of one pair: its interlock and its guard, 0–1023 counts (R51). -/
structure PairSetup where
  interlock : Bool
  guard : Nat
  deriving DecidableEq, Repr

/-- The current settings record (R135). A source is `none` or a sense line. -/
structure Settings where
  period : Nat
  divider : Nat
  mode : Mode
  budget : Nat
  triggerSource : Option Sense
  gateSource : Option Sense
  timingFilter : Nat
  quota : Bank Nat 4
  pairSetup : Bank PairSetup 8
  idleLevel : Bank Level 16
  deriving DecidableEq, Repr

/-- The values of R135 after device reset. -/
def Settings.reset : Settings where
  period := 1000
  divider := 40
  mode := .free
  budget := 0
  triggerSource := none
  gateSource := none
  timingFilter := 0
  quota := Bank.fill 4 32
  pairSetup := Bank.fill 8 ⟨false, 16⟩
  idleLevel := Bank.fill 16 .low

/-- A settings record in which every field may be absent, with the run field (R136). -/
structure Proposal where
  period : Option Nat
  divider : Option Nat
  mode : Option Mode
  run : Option RunField
  budget : Option Nat
  triggerSource : Option (Option Sense)
  gateSource : Option (Option Sense)
  timingFilter : Option Nat
  quota : Bank (Option Nat) 4
  pairSetup : Bank (Option PairSetup) 8
  idleLevel : Bank (Option Level) 16
  deriving DecidableEq, Repr

/-- A field a proposal may carry, as INVALID_SETTING with cause RANGE names it (R136). -/
inductive SettingField where
  | period
  | divider
  | mode
  | budget
  | triggerSource
  | gateSource
  | timingFilter
  | quota
  | pairSetup
  | idleLevel
  | run
  deriving DecidableEq, Repr

/-! ## The cycle time base (section 1.1) -/

inductive RunState where
  | stopped
  | armed
  | running
  | held
  deriving DecidableEq, Repr

/-- A sample filter's path: its filtered level and its run length (R5, R119). -/
structure Path where
  level : Level
  run : Nat
  deriving DecidableEq, Repr

def Path.reset : Path := ⟨.low, 0⟩

/-- The time base's own values, with the phase of the lease clock (R18). -/
structure TimeBase where
  run : RunState
  count : Nat
  cycle : Cycle
  phase : Nat
  originReached : Bool
  budgetRemaining : Nat
  trigger : Path
  gate : Path
  leasePhase : Nat
  deriving DecidableEq, Repr

/-- R20, and R18 for the lease clock. -/
def TimeBase.reset : TimeBase where
  run := .stopped
  count := 0
  cycle := 0
  phase := 0
  originReached := false
  budgetRemaining := 0
  trigger := .reset
  gate := .reset
  leasePhase := 0

/-! ## Timetable entries (section 4.1) -/

inductive Target where
  | drive (d : Drive)
  | sense (i : Sense)
  | marker
  deriving DecidableEq, Repr

/-- The action of an entry, with the width of a PULSE and the label of a MARK: the fields R56 ties to them. -/
inductive Action where
  | assert
  | deassert
  | toggle
  | pulse (width : Nat)
  | arm
  | disarm
  | mark (label : Byte)
  deriving DecidableEq, Repr

/-- Interval 1–16 and phase below it (R56, R58). -/
structure Cadence where
  interval : Nat
  phase : Nat
  deriving DecidableEq, Repr

/-- An entry. Its owner is the agent whose list holds it (R55). -/
structure Entry where
  handle : Nat
  target : Target
  action : Action
  offset : Nat
  cadence : Option Cadence
  deriving DecidableEq, Repr

/-! ## Drive lines (R98) -/

inductive Forcing where
  | free
  | forcedAsserted
  | forcedDeasserted
  deriving DecidableEq, Repr

/-- The kind of assert a deferred assert will make, with the width of a PULSE (R107). -/
inductive DeferredKind where
  | assert
  | pulse (width : Nat)
  deriving DecidableEq, Repr

structure Deferred where
  kind : DeferredKind
  cycle : Cycle
  deriving DecidableEq, Repr

structure DriveLine where
  asserted : Bool
  forcing : Forcing
  pulseEnd : Option Nat
  deferred : Option Deferred
  guardRemaining : Nat
  deriving DecidableEq, Repr

/-- The unowned condition of R49, which is also the condition after device reset (R117). -/
def DriveLine.idle : DriveLine := ⟨false, .free, none, none, 0⟩

/-! ## Sense lines (R118) -/

inductive EdgeSelect where
  | rising
  | falling
  | both
  deriving DecidableEq, Repr

/-- `sample` is the most recent sampled level of the line, which a reload takes (R6, R119). -/
structure SenseLine where
  select : EdgeSelect
  prescale : Nat
  counter : Nat
  filter : Nat
  path : Path
  armed : Bool
  sample : Level
  deriving DecidableEq, Repr

/-- R134; the sampled level is a DESIGN CHOICE of log entry 2. -/
def SenseLine.reset : SenseLine := ⟨.rising, 1, 0, 0, .reset, false, .low⟩

/-! ## Capture records (R124, R126) -/

/-- What a capture record is of. -/
inductive RecordKind where
  | edge (line : Sense) (edge : Edge) (idle : Bool)
  | mark (label : Byte)
  deriving DecidableEq, Repr

structure CaptureRecord where
  kind : RecordKind
  sequence : Half
  cycle : Cycle
  count : Nat
  deriving DecidableEq, Repr

/-- The source of a dropped record (R129). -/
inductive LossSource where
  | sense (i : Sense)
  | marker
  deriving DecidableEq, Repr

/-! ## Sessions (section 2.1) -/

inductive SessionState where
  | closed
  | openState
  | closing
  | expired
  deriving DecidableEq, Repr

/-- Lease interval and lease remaining, both in ms. -/
structure Lease where
  interval : Nat
  remaining : Nat
  deriving DecidableEq, Repr

/-- The commit state; a pending commit keeps the cycle number at which it was taken (R85). -/
inductive CommitState where
  | none
  | pending (taken : Cycle)
  deriving DecidableEq, Repr

/-- Why a session left, as PEER_LEFT tells it (R33). -/
inductive LeaveReason where
  | closed
  | expired
  | portReset
  deriving DecidableEq, Repr

/-! ## Ballots (R137) -/

inductive FailReason where
  | rejected (by_ : Agent)
  | withdrawn
  | deadline
  | proposerGone
  deriving DecidableEq, Repr

inductive BallotResult where
  | passed
  | failed (reason : FailReason)
  deriving DecidableEq, Repr

structure OpenBallot where
  proposer : Agent
  proposal : Proposal
  electorate : Bank Bool 4
  accepted : Bank Bool 4
  deadline : Nat
  deriving DecidableEq, Repr

inductive Slot where
  | empty
  | openSlot (b : OpenBallot)
  | passed (proposer : Agent) (proposal : Proposal)
  deriving DecidableEq, Repr

structure LastResult where
  number : Half
  result : BallotResult
  deriving DecidableEq, Repr

structure Ballot where
  number : Half
  slot : Slot
  last : Option LastResult
  deriving DecidableEq, Repr

/-- R152. -/
def Ballot.reset : Ballot := ⟨0, .empty, none⟩

/-! ## Notices (section 9.2) -/

/-- How an exchange or an application was made (R91, R150). -/
inductive Way where
  | boundary
  | immediate
  deriving DecidableEq, Repr

/-- The cause of TIMEBASE_CHANGED (R12). -/
inductive Cause where
  | triggerStart
  | budgetEnd
  | settings
  deriving DecidableEq, Repr

/-- The eleven kinds with their data. -/
inductive NoticeKind where
  | commitApplied (count : Nat) (way : Way)
  | ballotOpened (number : Half) (proposer : Agent) (deadline : Nat)
  | ballotClosed (number : Half) (result : BallotResult)
  | settingsApplied (number : Half) (way : Way)
  | timebaseChanged (run : RunState) (mode : Mode) (cause : Cause) (budgetRemaining : Nat)
  | captureReady (sequence : Half) (kind : RecordKind)
  | captureOverrun (source : LossSource) (sequence : Half)
  | interlockResolved (line : Drive) (deferred : Cycle) (taken : Bool)
  | peerJoined (agent : Agent) (epoch : Byte)
  | peerLeft (agent : Agent) (epoch : Byte) (reason : LeaveReason)
  | noticesLost (count : Nat) (first : Cycle)
  deriving DecidableEq, Repr

structure Notice where
  kind : NoticeKind
  cycle : Cycle
  deriving DecidableEq, Repr

/-- The record of one session: what section 2.1 lists, and what the other chapters hold for it. -/
structure Session where
  state : SessionState
  epoch : Byte
  lease : Option Lease
  commit : CommitState
  staging : List Entry
  active : List Entry
  applied : Option Cycle
  captures : List CaptureRecord
  sequence : Half
  lostSense : Bank Nat 8
  lostMarker : Nat
  overrun : Bool
  notices : List Notice
  lostNotices : Nat
  firstLoss : Option Cycle
  deriving DecidableEq, Repr

/-- A session that holds nothing, in a given state and with a given epoch (R21, R37). -/
def Session.vacant (state : SessionState) (epoch : Byte) : Session where
  state := state
  epoch := epoch
  lease := none
  commit := .none
  staging := []
  active := []
  applied := none
  captures := []
  sequence := 0
  lostSense := Bank.fill 8 0
  lostMarker := 0
  overrun := false
  notices := []
  lostNotices := 0
  firstLoss := none

/-! ## Responses (R166) -/

/-- The status codes, in the order of section 11.2. -/
inductive Status where
  | ok
  | applied
  | pending
  | noSession
  | sessionExpired
  | sessionClosing
  | alreadyOpen
  | badFrame
  | unknownCommand
  | badArgument
  | offsetRange
  | lineTaken
  | lineNotOwned
  | lineInUse
  | ballotLock
  | quotaFull
  | duplicate
  | noSuchHandle
  | stagingFrozen
  | commitPending
  | nothingPending
  | invalidEntry
  | interlock
  | ballotBusy
  | staleBallot
  | notElector
  | alreadyVoted
  | notProposer
  | invalidSetting
  | offsetConflict
  | quotaConflict
  | lineReserved
  deriving DecidableEq, Repr

/-- The slot state as responses carry it. -/
inductive SlotState where
  | empty
  | openState
  | passed
  deriving DecidableEq, Repr

/-- The bound of a staging list, with its source: the settings, or the ballot of a lower proposed quota (R63). -/
structure Bound where
  limit : Nat
  ballot : Option Half
  deriving DecidableEq, Repr

/-- A period that refuses an offset, with the ballot that proposes it (R57). -/
structure PeriodLimit where
  period : Nat
  ballot : Option Half
  deriving DecidableEq, Repr

/-- Why a COMMIT is refused INVALID_ENTRY, with the response data of R83. -/
inductive EntryFault where
  | quota (bound : Bound) (count : Nat)
  | lineNotOwned (handle : Nat) (target : Target)
  | offsetRange (handle : Nat) (limit : PeriodLimit)
  | interlock (handle : Nat) (conflicting : Nat)
  deriving DecidableEq, Repr

/-- The causes of INVALID_SETTING (R136). -/
inductive SettingFault where
  | empty
  | range (field : SettingField)
  | modeSource
  | quotaSum
  deriving DecidableEq, Repr

/-- What a PROPOSE or VOTE led to (R140, R142). -/
inductive Outcome where
  | openBallot
  | passed
  | applied
  | failed
  deriving DecidableEq, Repr

/-- One line of the line report of R116: the record of the line and its pair's setup. -/
structure LineReport where
  line : DriveLine
  setup : PairSetup
  deriving DecidableEq, Repr

/-- Drive set and sense set. -/
structure LineSets where
  drives : Bank Bool 16
  senses : Bank Bool 8
  deriving DecidableEq, Repr

/-- The response data of every rule that gives any, one constructor for each shape. -/
inductive Data where
  | none
  | opened (agent : Agent) (epoch : Byte)
  | closed (state : SessionState) (withdrawn : Bool)
  | leaseInterval (ms : Nat)
  | statusReport (state : SessionState) (epoch : Byte) (run : RunState) (cycle : Cycle) (count : Nat)
      (slot : SlotState) (number : Half)
  | ownership (acted owned : LineSets)
  | lines (sets : LineSets)
  | locked (drives : Bank Bool 16) (number : Half)
  | lineOf (target : Target)
  | offsetRefused (limit : PeriodLimit)
  | handleOnly (handle : Nat)
  | quotaFull (bound : Bound) (count : Nat)
  | staged (handle count limit : Nat)
  | entryWithdrawn (entry : Entry) (left : Nat)
  | removed (count : Nat)
  | stagedPage (commit : CommitState) (count : Nat) (bound : Bound) (next : Option Nat) (entries : List Entry)
  | activePage (agent : Agent) (count : Nat) (applied : Option Cycle) (next : Option Nat) (entries : List Entry)
  | takenCycle (cycle : Cycle)
  | committed (cycle : Cycle) (count : Nat)
  | entryFault (fault : EntryFault)
  | abandoned (taken : Cycle) (count : Nat) (applied : Option Cycle)
  | appliedCycle (applied : Option Cycle)
  | partnerBlocks (partner : Drive) (asserted : Bool) (forcing : Forcing) (guardRemaining : Nat)
  | lineReport (own partner : LineReport)
  | unforced (own partner : LineReport) (wasForced : Bool)
  | senseReport (line : SenseLine) (queued : Nat)
  | captures (left : Nat) (lostSense : Bank Nat 8) (lostMarker : Nat) (overrun : Bool) (records : List CaptureRecord)
  | ballotBusy (slot : SlotState) (number : Half) (proposer : Agent)
  | settingFault (fault : SettingFault)
  | offsetConflict (agent : Agent) (handle offset : Nat) (active : Bool)
  | quotaConflict (agent : Agent) (quota staged active : Nat)
  | reservedLines (drives : Bank Bool 16)
  | proposed (number : Half) (electorate : Bank Bool 4) (outcome : Outcome)
  | slotReport (slot : SlotState) (number : Half)
  | voted (number : Half) (outcome : Outcome) (remaining : Option Nat)
  | ballotNumber (number : Half)
  | settings (record : Settings) (field : RunField)
  | ballot (ballot : Ballot)
  | notices (left : Nat) (lossPlaced : Bool) (notices : List Notice)
  deriving DecidableEq, Repr

/-- What an owning block answers: the status and the response data. -/
structure Reply where
  status : Status
  data : Data
  deriving DecidableEq, Repr

/-- A response frame in the response queue. -/
structure Response where
  tag : Byte
  code : Byte
  status : Status
  data : Data
  deriving DecidableEq, Repr

/-! ## Agent ports (R161) -/

inductive PortError where
  | none
  | truncated
  | overlength
  | portFull
  | fetchEmpty
  deriving DecidableEq, Repr

/-- Where the transaction of a port stands. The framing state, the partial frame and the fetch position of R161 are
read off it: a partial frame exists only while receiving, a fetch position only while sending. -/
inductive Transaction where
  /-- SELn_N is high. -/
  | idle
  /-- SELn_N was already low when RESET_N rose: ignored until it has risen and fallen again (R170). -/
  | ignored
  /-- The port status byte, formed when SELn_N fell, is being shifted out (R163). -/
  | status (byte : Byte)
  /-- The transaction byte is being shifted in. -/
  | command
  /-- RECEIVING, with the bytes of the partial frame (R164). -/
  | receiving (frame : List Byte)
  /-- SENDING, with the fetch position (R167). -/
  | sending (position : Nat)
  /-- The empty-response marker is being shifted out; so many of its bytes have gone (R167). -/
  | marker (position : Nat)
  /-- The transaction's action is complete: further bytes are ignored and filler goes out. -/
  | done
  deriving DecidableEq, Repr

inductive Framing where
  | idle
  | receiving
  | sending
  deriving DecidableEq, Repr

/-- `selected` is the level at the pin: SELn_N low. `shiftedOut` is the byte last shifted out whole on SDOn, `none`
while SDOn is high-impedance or before the first byte. -/
structure Port where
  selected : Bool
  transaction : Transaction
  responses : List Response
  error : PortError
  shiftedOut : Option Byte
  deriving DecidableEq, Repr

/-- R161, with SELn_N high (log entry 1). -/
def Port.reset : Port := ⟨false, .idle, [], .none, none⟩

/-! ## Events that arise by themselves -/

/-- The events that a REFCLK period or a lease clock advance brings about, each of which waits to be taken by the block
whose state it changes (R5, R18, R24, R119, R144; log entry 5). -/
inductive Event where
  | countAdvance
  | triggerEdge
  | gateChange (level : Level)
  | captureEdge (line : Sense) (edge : Edge)
  | leaseClockAdvance
  | leaseExpiry (a : Agent)
  | deadlineExpiry
  deriving DecidableEq, Repr

end Sys2Proof.Machine
end

