-- ==== Sys2Proof/Machine/State.lean ====
section
/-! DEFINITION. The state of the block, as plain data, and its value right after reset. -/

namespace Sys2Proof.Machine

/-- The spec gives the part no fault that stops it: every refusal is a status in a response, every loss a count. No
command faults. -/
inductive Fault where
  deriving DecidableEq, Repr

/-- Why a command has no outcome. -/
inductive Refusal where
  /-- Raised by an arm of `exec` whose command has no meaning yet. Safe: nothing can be proved of what follows. No arm
  raises it now. -/
  | notModelled (mnemonic : String)
  deriving DecidableEq, Repr

/-- Everything the spec gives the part, block by block, and the commands that wait. -/
structure State where
  /-- The current settings record (R135). -/
  settings : Settings
  /-- The cycle time base and the lease clock (section 1.1, R18). -/
  time : TimeBase
  /-- The ballot slot (R137). -/
  ballot : Ballot
  /-- The ownership table: the owner of each drive line (R39). -/
  driveOwner : Bank (Option Agent) 16
  /-- The ownership table: the owner of each sense line (R39). -/
  senseOwner : Bank (Option Agent) 8
  /-- The drive engine's record of each drive line (R98). -/
  drive : Bank DriveLine 16
  /-- The sense and capture unit's record of each sense line (R118). -/
  sense : Bank SenseLine 8
  /-- The session record of each agent, with its lists and queues (section 2.1). -/
  sessions : Bank Session 4
  /-- The state of each agent port (R161). -/
  ports : Bank Port 4
  /-- RESET_N is low (R170). -/
  resetLow : Bool
  /-- REFCLK runs (R19). -/
  refclk : Bool
  /-- Events of the last REFCLK period that have not been taken yet (log entry 5). -/
  arisen : List Event
  /-- The model's own: how many free choices have been made (log entry 6). -/
  freeCount : Nat
  /-- The commands that wait, first in first out. -/
  pending : List Instr
  deriving DecidableEq, Repr

/-- The machine right after device reset, with RESET_N risen, REFCLK running and every SELn_N high (R20, R37, R54, R79,
R117, R134, R152, R160, R161; log entries 1 and 2). -/
def State.reset : State where
  settings := .reset
  time := .reset
  ballot := .reset
  driveOwner := Bank.fill 16 none
  senseOwner := Bank.fill 8 none
  drive := Bank.fill 16 .idle
  sense := Bank.fill 8 .reset
  sessions := Bank.fill 4 (.vacant .closed 0)
  ports := Bank.fill 4 .reset
  resetLow := false
  refclk := true
  arisen := []
  freeCount := 0
  pending := []

end Sys2Proof.Machine
end

