-- ==== Sys2Proof/Machine/Ops.lean ====
section
/-! DEFINITION. The named operations over the state that every block uses: reading and writing one record of a bank,
the settings in force, ownership, and queueing notices (chapters 3, 8 and 9). -/

namespace Sys2Proof.Machine

/-! ## One record of a bank -/

def State.session (s : State) (a : Agent) : Session := s.sessions.read a

def State.setSession (s : State) (a : Agent) (q : Session) : State := { s with sessions := s.sessions.write a q }

def State.port (s : State) (p : Agent) : Port := s.ports.read p

def State.setPort (s : State) (p : Agent) (x : Port) : State := { s with ports := s.ports.write p x }

def State.line (s : State) (d : Drive) : DriveLine := s.drive.read d

def State.setLine (s : State) (d : Drive) (l : DriveLine) : State := { s with drive := s.drive.write d l }

def State.senseLine (s : State) (i : Sense) : SenseLine := s.sense.read i

def State.setSenseLine (s : State) (i : Sense) (l : SenseLine) : State := { s with sense := s.sense.write i l }

/-! ## Sets of lines and agents -/

/-- How many members a set of agents has. -/
def setSize {n : Nat} (b : Bank Bool n) : Nat := (List.finRange n).countP fun i => b.read i

def setIsEmpty {n : Nat} (b : Bank Bool n) : Bool := (List.finRange n).all fun i => !b.read i

def emptySet (n : Nat) : Bank Bool n := Bank.fill n false

/-- The members of `b` that satisfy `f`. -/
def setFilter {n : Nat} (b : Bank Bool n) (f : Fin n → Bool) : Bank Bool n := Bank.build fun i => b.read i && f i

/-! ## Pairs and settings in force (R40, R51) -/

/-- The pair of a drive line: D2k and D2k+1 make pair k. -/
def pairOf (d : Drive) : Pair := ⟨d.val / 2, by omega⟩

/-- The other line of the pair. -/
def partner (d : Drive) : Drive :=
  if h : d.val % 2 = 0 then ⟨d.val + 1, by omega⟩ else ⟨d.val - 1, by omega⟩

/-- The pair of `d` is interlocked in the settings in force. -/
def interlocked (st : Settings) (d : Drive) : Bool := (st.pairSetup.read (pairOf d)).interlock

/-- The guard of the pair of `d`. -/
def guardOf (st : Settings) (d : Drive) : Nat := (st.pairSetup.read (pairOf d)).guard

/-! ## Run states (section 1.3, R12) -/

/-- RUNNING or HELD: the running class of R12. -/
def RunState.isRunning : RunState → Bool
  | .running => true
  | .held => true
  | .stopped => false
  | .armed => false

/-- The three classes of R12: running is one class. -/
inductive RunClass where
  | stopped
  | armed
  | running
  deriving DecidableEq, Repr

def RunState.runClass : RunState → RunClass
  | .stopped => .stopped
  | .armed => .armed
  | .running => .running
  | .held => .running

/-! ## Sessions (R21) -/

/-- OPEN or CLOSING: the session exists. -/
def SessionState.present : SessionState → Bool
  | .openState => true
  | .closing => true
  | .closed => false
  | .expired => false

/-! ## Ownership (R39) -/

def State.ownsDrive (s : State) (a : Agent) (d : Drive) : Bool := s.driveOwner.read d == some a

def State.ownsSense (s : State) (a : Agent) (i : Sense) : Bool := s.senseOwner.read i == some a

/-- The agent owns the line a target names; a MARKER names none. -/
def State.ownsTarget (s : State) (a : Agent) : Target → Bool
  | .drive d => s.ownsDrive a d
  | .sense i => s.ownsSense a i
  | .marker => true

/-- All lines the agent owns. -/
def State.owned (s : State) (a : Agent) : LineSets where
  drives := Bank.build fun d => s.ownsDrive a d
  senses := Bank.build fun i => s.ownsSense a i

/-! ## The ballot slot (R52, R137) -/

/-- The proposal held while the slot is OPEN or PASSED. -/
def Slot.proposal? : Slot → Option Proposal
  | .empty => none
  | .openSlot b => some b.proposal
  | .passed _ p => some p

def Slot.state : Slot → SlotState
  | .empty => .empty
  | .openSlot _ => .openState
  | .passed _ _ => .passed

/-- The lock set of a proposal: both lines of every pair with a pair-setup field, and every line with an idle-level
field (R52). -/
def Proposal.lockSet (p : Proposal) : Bank Bool 16 :=
  Bank.build fun d => (p.pairSetup.read (pairOf d)).isSome || (p.idleLevel.read d).isSome

/-- The ballot lock set: empty while the slot is EMPTY (R52). -/
def State.lockSet (s : State) : Bank Bool 16 :=
  match s.ballot.slot.proposal? with
  | none => emptySet 16
  | some p => p.lockSet

/-! ## Queueing notices (R154, R155) -/

/-- A notice offered to a session's queue joins it, or is dropped and counted when the queue holds 8 (R155). -/
def Session.offer (q : Session) (x : Notice) : Session :=
  if q.notices.length < Config.noticeCapacity then { q with notices := q.notices ++ [x] }
  else { q with
    lostNotices := min 255 (q.lostNotices + 1)
    firstLoss := if q.lostNotices = 0 then some x.cycle else q.firstLoss }

/-- Queue one notice, numbered `n`, to each session of `who` that is OPEN or CLOSING (R154). -/
def State.notifyEach (s : State) (n : Cycle) (k : NoticeKind) (who : Agent → Bool) : State :=
  { s with sessions := Bank.build fun a =>
      if who a && (s.session a).state.present then (s.session a).offer ⟨k, n⟩ else s.session a }

/-- Queue one notice to one agent. -/
def State.notify (s : State) (n : Cycle) (k : NoticeKind) (a : Agent) : State := s.notifyEach n k fun b => b == a

/-- Queue one notice to every OPEN or CLOSING session. -/
def State.notifyAll (s : State) (n : Cycle) (k : NoticeKind) : State := s.notifyEach n k fun _ => true

/-- Queue one notice to every OPEN or CLOSING session other than `a`. -/
def State.notifyOthers (s : State) (n : Cycle) (k : NoticeKind) (a : Agent) : State := s.notifyEach n k fun b => b != a

/-! ## Free choices (log entry 6) -/

/-- The index chosen among `n`: a free value, taken only where more than one is possible. -/
def State.chosen (s : State) (n : Nat) : Nat := Config.choice s.freeCount % n

/-- Apply `f` to the members of a list, one after another, in an order the spec leaves open. -/
def takeInAnyOrder {α : Type} (f : α → State → State) : Nat → List α → State → State
  | 0, _, s => s
  | _ + 1, [], s => s
  | _ + 1, [x], s => f x s
  | fuel + 1, x :: y :: rest, s =>
    let i := s.chosen (x :: y :: rest).length
    let s' := { s with freeCount := s.freeCount + 1 }
    takeInAnyOrder f fuel ((x :: y :: rest).eraseIdx i) (f ((x :: y :: rest).getD i x) s')

end Sys2Proof.Machine
end

