-- ==== Sys2Proof/Machine/Capture.lean ====
section
/-! DEFINITION. The sense and capture unit (chapter 7): sample filters, arming, edges, records and the capture queue. -/

namespace Sys2Proof.Machine

/-! ## Sample filters (R5, R119) -/

/-- The change of filtered level that a sample brings about in a path with a filter of `n` samples: it comes with the
sample on which the run length would reach n+1 (R5). -/
def Path.changes (n : Nat) (sample : Level) (p : Path) : Bool := sample != p.level && n ≤ p.run

/-- The run length after a sample that brings about no change (R5). -/
def Path.count (n : Nat) (sample : Level) (p : Path) : Path :=
  if sample = p.level then { p with run := 0 } else if p.run < n then { p with run := p.run + 1 } else p

/-- The path after its filtered level has taken a level: at a change, and at a reload (R5, R6, R119). -/
def Path.at_ (level : Level) : Path := ⟨level, 0⟩

/-- The level a filtered edge leads to (R119). -/
def edgeLevel : Edge → Level
  | .rising => .high
  | .falling => .low

/-- The edge that leads to a filtered level. -/
def levelEdge : Level → Edge
  | .high => .rising
  | .low => .falling

/-! ## Arming and setup (R42, R120 to R122) -/

/-- R121: arming always clears the prescale counter. -/
def SenseLine.arm (l : SenseLine) : SenseLine := { l with armed := true, counter := 0 }

/-- R121: a DISARMED line has counter 0 already. -/
def SenseLine.disarm (l : SenseLine) : SenseLine := { l with armed := false, counter := 0 }

/-- R120: the new setup, counter 0 and a reload of the capture path; the armed state is kept. -/
def SenseLine.setup (select : EdgeSelect) (prescale filter : Nat) (l : SenseLine) : SenseLine :=
  { l with select := select, prescale := prescale, filter := filter, counter := 0, path := .at_ l.sample }

/-- A line newly reserved: DISARMED, counter 0, setup at its reset values, capture path reloaded (R42, R119). -/
def SenseLine.fresh (l : SenseLine) : SenseLine := { SenseLine.reset with path := .at_ l.sample, sample := l.sample }

/-- An edge of line `i` that has arisen and is not yet taken is absorbed by a reload of the path (R125; log entry 11). -/
def Event.isEdgeOf (i : Sense) : Event → Bool
  | .captureEdge j _ => i == j
  | _ => false

def State.absorbEdge (s : State) (i : Sense) : State :=
  { s with arisen := s.arisen.filter fun e => !e.isEdgeOf i }

/-! ## Records (R124, R126 to R129) -/

/-- The source whose lost count a dropped record raises (R129). -/
def RecordKind.source : RecordKind → LossSource
  | .edge i _ _ => .sense i
  | .mark _ => .marker

/-- The saturating lost count of a source (R129). -/
def Session.countLoss (q : Session) : LossSource → Session
  | .sense i => { q with lostSense := q.lostSense.write i (min 255 (q.lostSense.read i + 1)) }
  | .marker => { q with lostMarker := min 255 (q.lostMarker + 1) }

/-- The sequence counter after a drop: it is held back when it stands one below the number of the newest record in the
queue (R127). -/
def Session.sequenceAfterDrop (q : Session) : Half :=
  match q.captures.getLast? with
  | none => q.sequence + 1
  | some newest => if q.sequence + 1 = newest.sequence then q.sequence else q.sequence + 1

/-- Make a record for agent `a` and offer it to its capture queue (R127 to R129). -/
def State.makeRecord (s : State) (a : Agent) (kind : RecordKind) (count : Nat) : State :=
  let q := s.session a
  let r : CaptureRecord := ⟨kind, q.sequence, s.time.cycle, count⟩
  if q.captures.length < Config.captureCapacity then
    let s' := s.setSession a { q with captures := q.captures ++ [r], sequence := q.sequence + 1 }
    if q.captures.isEmpty then s'.notify s.time.cycle (.captureReady r.sequence kind) a else s'
  else
    let s' := s.setSession a
      { (q.countLoss kind.source) with sequence := q.sequenceAfterDrop, overrun := true }
    if q.overrun then s' else s'.notify s.time.cycle (.captureOverrun kind.source r.sequence) a

/-! ## Edges (R123) -/

/-- The edge matches the edge selection. -/
def EdgeSelect.selects : EdgeSelect → Edge → Bool
  | .rising, .rising => true
  | .rising, .falling => false
  | .falling, .rising => false
  | .falling, .falling => true
  | .both, _ => true

/-- TIMEBASE_IDLE of an EDGE record (R124). -/
def State.timebaseIdle (s : State) : Bool := !s.time.run.isRunning

/-- An edge of the capture path of line `i`, taken by the sense and capture unit: the path's filtered level has taken
the edge's level (R119), and the edge counts toward the prescale of an owned, ARMED line that selects it (R123). -/
def State.takeEdge (s : State) (i : Sense) (e : Edge) : State :=
  let l := { s.senseLine i with path := .at_ (edgeLevel e), sample := edgeLevel e }
  match s.senseOwner.read i with
  | none => s.setSenseLine i l
  | some a =>
    if l.armed && l.select.selects e then
      if l.counter + 1 < l.prescale then s.setSenseLine i { l with counter := l.counter + 1 }
      else (s.setSenseLine i { l with counter := 0 }).makeRecord a (.edge i e s.timebaseIdle) s.time.count
    else s.setSenseLine i l

/-- A due ARM or DISARM entry, or a command (R121, R122). -/
def State.serveSense (s : State) (i : Sense) (act : Action) : State :=
  match act with
  | .arm => s.setSenseLine i (s.senseLine i).arm
  | .disarm => s.setSenseLine i (s.senseLine i).disarm
  | .assert => s
  | .deassert => s
  | .toggle => s
  | .pulse _ => s
  | .mark _ => s

end Sys2Proof.Machine
end

