-- ==== Sys2Proof/Machine/Drive.lean ====
section
/-! DEFINITION. The drive engine (chapter 6): the interlock, the drive actions of due entries, the countdown of a count
advance, deferred asserts, the stop, and forcing. -/

namespace Sys2Proof.Machine

/-! ## The interlock (R99, R100) -/

/-- A line of an interlocked pair is blocked when its partner is ASSERTED or in guard (R99). -/
def blocked (st : Settings) (lines : Bank DriveLine 16) (d : Drive) : Bool :=
  interlocked st d && ((lines.read (partner d)).asserted || 0 < (lines.read (partner d)).guardRemaining)

/-- Asserting a line sets its own guard remaining to 0 (R99). -/
def DriveLine.assert (l : DriveLine) : DriveLine := { l with asserted := true, guardRemaining := 0 }

/-- The guarded deassert of R100, for line `d` under settings `st`. -/
def DriveLine.guardedDeassert (st : Settings) (d : Drive) (l : DriveLine) : DriveLine :=
  if l.asserted then
    { l with
      asserted := false
      pulseEnd := none
      guardRemaining := if interlocked st d then guardOf st d else l.guardRemaining }
  else l

/-- The clearing deassert of a stop (R11, R115): a forced line keeps its forcing and its level. -/
def DriveLine.stop (l : DriveLine) : DriveLine :=
  { l with
    asserted := if l.forcing = .free then false else l.asserted
    pulseEnd := none
    deferred := none
    guardRemaining := 0 }

/-! ## Due entries (R101 to R105) -/

/-- A deferred assert made, or kept with its cycle and given the new kind (R102, R105). -/
def DriveLine.defer (cycle : Cycle) (k : DeferredKind) (l : DriveLine) : DriveLine :=
  { l with deferred := some (match l.deferred with
      | none => ⟨k, cycle⟩
      | some x => ⟨k, x.cycle⟩) }

/-- R102. -/
def DriveLine.dueAssert (isBlocked : Bool) (cycle : Cycle) (l : DriveLine) : DriveLine :=
  if l.asserted then { l with pulseEnd := none }
  else if isBlocked then l.defer cycle .assert
  else { l.assert with deferred := none }

/-- R103. -/
def DriveLine.dueDeassert (st : Settings) (d : Drive) (l : DriveLine) : DriveLine :=
  if l.asserted then l.guardedDeassert st d else { l with deferred := none }

/-- R104. -/
def DriveLine.dueToggle (st : Settings) (d : Drive) (isBlocked : Bool) (cycle : Cycle) (l : DriveLine) : DriveLine :=
  if l.asserted then l.dueDeassert st d
  else if l.deferred.isSome then { l with deferred := none }
  else l.dueAssert isBlocked cycle

/-- R105. -/
def DriveLine.duePulse (isBlocked : Bool) (cycle : Cycle) (w : Nat) (l : DriveLine) : DriveLine :=
  if l.asserted then { l with pulseEnd := some w }
  else if isBlocked then l.defer cycle (.pulse w)
  else { l.assert with pulseEnd := some w, deferred := none }

/-- A due action on a line; suppressed while the line is forced (R101). -/
def DriveLine.serve (st : Settings) (d : Drive) (isBlocked : Bool) (cycle : Cycle) (act : Action) (l : DriveLine) :
    DriveLine :=
  if l.forcing = .free then
    match act with
    | .assert => l.dueAssert isBlocked cycle
    | .deassert => l.dueDeassert st d
    | .toggle => l.dueToggle st d isBlocked cycle
    | .pulse w => l.duePulse isBlocked cycle w
    | .arm => l
    | .disarm => l
    | .mark _ => l
  else l

/-- Serve one due drive entry on the state the entries before it left (R101). -/
def State.serveDrive (s : State) (d : Drive) (act : Action) : State :=
  s.setLine d ((s.line d).serve s.settings d (blocked s.settings s.drive d) s.time.cycle act)

/-! ## The countdown of a count advance (R106) -/

/-- Step 1: every guard remaining above 0 is lowered by one. -/
def lowerGuards (lines : Bank DriveLine 16) : Bank DriveLine 16 :=
  Bank.build fun d => { lines.read d with guardRemaining := (lines.read d).guardRemaining - 1 }

/-- The end of a pulse: the pulse end becomes absent and the line makes a guarded deassert. -/
def DriveLine.endPulse (st : Settings) (d : Drive) (l : DriveLine) : DriveLine :=
  ({ l with pulseEnd := none }).guardedDeassert st d

/-- Step 2 on one line. -/
def DriveLine.lowerPulse (st : Settings) (d : Drive) (l : DriveLine) : DriveLine :=
  match l.pulseEnd with
  | none => l
  | some k => if k ≤ 1 then l.endPulse st d else { l with pulseEnd := some (k - 1) }

/-- Step 2: every pulse end is lowered by one. -/
def lowerPulses (st : Settings) (lines : Bank DriveLine 16) : Bank DriveLine 16 :=
  Bank.build fun d => (lines.read d).lowerPulse st d

/-- The pulse end a deferred assert sets when it is taken (R107). -/
def DeferredKind.width : DeferredKind → Option Nat
  | .assert => none
  | .pulse w => some w

/-- A line that takes its deferred assert (R107). -/
def DriveLine.takeDeferred (x : Deferred) (l : DriveLine) : DriveLine :=
  { l.assert with pulseEnd := x.kind.width, deferred := none }

/-- INTERLOCK_RESOLVED to the owner of the line (R110). -/
def State.notifyResolved (s : State) (n : Cycle) (d : Drive) (x : Deferred) (taken : Bool) : State :=
  match s.driveOwner.read d with
  | none => s
  | some a => s.notify n (.interlockResolved d x.cycle taken) a

/-- Step 3 on one line: a deferred assert that is no longer blocked is taken (R107). -/
def State.takeDeferral (n : Cycle) (s : State) (d : Drive) : State :=
  match (s.line d).deferred with
  | none => s
  | some x =>
    if blocked s.settings s.drive d then s
    else (s.setLine d ((s.line d).takeDeferred x)).notifyResolved n d x true

/-- The countdown of one count advance (R106). Its notices are numbered `n`. -/
def State.countdown (n : Cycle) (s : State) : State :=
  (List.finRange 16).foldl (State.takeDeferral n)
    { s with drive := lowerPulses s.settings (lowerGuards s.drive) }

/-! ## Deferred asserts at a boundary (R108) -/

/-- Part 5 on one line: a deferred assert not made in the ending cycle lapses. -/
def State.lapseDeferral (n : Cycle) (s : State) (d : Drive) : State :=
  match (s.line d).deferred with
  | none => s
  | some x =>
    if x.cycle = s.time.cycle then s
    else (s.setLine d { s.line d with deferred := none }).notifyResolved n d x false

/-- Part 5 of a boundary, in ascending line order (R108, R154). -/
def State.lapseDeferrals (n : Cycle) (s : State) : State := (List.finRange 16).foldl (State.lapseDeferral n) s

/-! ## Forcing (R111, R112, R116) -/

/-- The line report of R116 for one line. FORCE_LINE and UNFORCE_LINE give it for the partner as well, whoever owns the
partner (log entry 30). -/
def State.report (s : State) (d : Drive) : LineReport := ⟨s.line d, s.settings.pairSetup.read (pairOf d)⟩

/-- The effect of an accepted FORCE_LINE on the line (R111). Repeating the line's present forcing changes nothing. -/
def DriveLine.force (st : Settings) (d : Drive) (level : Bool) (l : DriveLine) : DriveLine :=
  if level then
    if l.forcing = .forcedAsserted then l
    else { l.assert with forcing := .forcedAsserted, pulseEnd := none, deferred := none }
  else
    if l.forcing = .forcedDeasserted then l
    else { l.guardedDeassert st d with forcing := .forcedDeasserted, pulseEnd := none, deferred := none }

/-- The effect of an accepted UNFORCE_LINE on the line (R112). -/
def DriveLine.unforce (st : Settings) (d : Drive) (l : DriveLine) : DriveLine :=
  match l.forcing with
  | .forcedAsserted => ({ l with forcing := .free }).guardedDeassert st d
  | .forcedDeasserted => { l with forcing := .free }
  | .free => l

end Sys2Proof.Machine
end

