-- ==== Sys2Proof/Machine/TimeBase.lean ====
section
/-! DEFINITION. The cycle time base (chapter 1) and what the timetable store does at a count reached (section 4.2):
due entries, the beginning of a cycle, the budget, and entering STOPPED or ARMED. -/

namespace Sys2Proof.Machine

/-! ## Due entries (R58, R59, R75) -/

/-- The cadence matches the cycle number (R58). -/
def Entry.matches (e : Entry) (cycle : Cycle) : Bool :=
  match e.cadence with
  | none => true
  | some c => cycle.toNat % c.interval == c.phase

/-- The active entries of agent `a` that are due at a count of a cycle, on one target. -/
def State.dueOf (s : State) (count : Nat) (t : Target) (a : Agent) : List (Agent × Entry) :=
  ((s.session a).active.filter fun e => e.target == t && e.offset == count && e.matches s.time.cycle).map fun e => (a, e)

/-- All agents' entries due on one target, in owner order. -/
def State.dueOn (s : State) (count : Nat) (t : Target) : List (Agent × Entry) :=
  (List.finRange 4).flatMap fun a => s.dueOf count t a

/-- The due entries of a count in execution order: drive entries by line, sense entries by line, MARKER entries by owner
(R75). -/
def State.dueEntries (s : State) (count : Nat) : List (Agent × Entry) :=
  ((List.finRange 16).flatMap fun d => s.dueOn count (.drive d))
    ++ ((List.finRange 8).flatMap fun i => s.dueOn count (.sense i))
    ++ s.dueOn count .marker

/-- Serve one due entry: on its line by the drive engine or the sense and capture unit, or as a mark (R59). -/
def State.serve (s : State) (x : Agent × Entry) : State :=
  match x.2.target with
  | .drive d => s.serveDrive d x.2.action
  | .sense i => s.serveSense i x.2.action
  | .marker =>
    match x.2.action with
    | .mark label => s.makeRecord x.1 (.mark label) x.2.offset
    | .assert => s
    | .deassert => s
    | .toggle => s
    | .pulse _ => s
    | .arm => s
    | .disarm => s

/-- A count is reached: its due entries are served, one after another (R2, R59). Reaching count 0 sets origin reached. -/
def State.reach (s : State) (count : Nat) : State :=
  let s' := if count = 0 then { s with time := { s.time with originReached := true } } else s
  (s'.dueEntries count).foldl State.serve s'

/-! ## Beginning a cycle (R3) -/

/-- A count advance that has arisen does not happen once the time base leaves RUNNING or the cycle ends (R8, R9). -/
def State.dropCountAdvance (s : State) : State := { s with arisen := s.arisen.filter fun e => e != .countAdvance }

/-- The cycle number increases; count, divider phase and origin reached are cleared (R3). -/
def State.newCycle (s : State) : State :=
  { s.dropCountAdvance with
    time := { s.time with cycle := s.time.cycle + 1, count := 0, phase := 0, originReached := false } }

/-- A new cycle begins; in RUNNING, count 0 is reached at once (R3). -/
def State.beginCycle (s : State) : State :=
  if s.time.run = .running then s.newCycle.reach 0 else s.newCycle

/-! ## Entering STOPPED or ARMED (R11, R115) -/

/-- The time base enters `run`, STOPPED or ARMED, from another run state. -/
def State.enterIdle (run : RunState) (s : State) : State :=
  { s.dropCountAdvance with
    time := { s.time with run := run, count := 0, phase := 0, originReached := false }
    drive := Bank.build fun d => (s.line d).stop }

/-! ## The budget (R10) -/

/-- The run state a budget run-out leads to (R10). -/
def Mode.afterRunOut : Mode → RunState
  | .triggered => .armed
  | .free => .stopped
  | .restart => .stopped
  | .gated => .stopped

/-- The budget is examined at a boundary and decreased; at 0 it has run out (R10). -/
def State.examineBudget (s : State) : State :=
  match s.time.budgetRemaining with
  | 0 => s
  | 1 => ({ s with time := { s.time with budgetRemaining := 0 } }).enterIdle s.settings.mode.afterRunOut
  | k + 2 => { s with time := { s.time with budgetRemaining := k + 1 } }

/-- Budget remaining is loaded from the budget in force (R10). -/
def State.loadBudget (s : State) : State := { s with time := { s.time with budgetRemaining := s.settings.budget } }

/-! ## TIMEBASE_CHANGED (R12) -/

/-- TIMEBASE_CHANGED to every OPEN or CLOSING session, with the run state, mode and budget remaining as they are. -/
def State.notifyTimebase (s : State) (n : Cycle) (cause : Cause) : State :=
  s.notifyAll n (.timebaseChanged s.time.run s.settings.mode cause s.time.budgetRemaining)

/-! ## Paths of the time base (R5, R6) -/

/-- The most recent sampled level of a source, LOW if the source is none (R6). -/
def State.sourceLevel (s : State) : Option Sense → Level
  | none => .low
  | some i => (s.senseLine i).sample

/-- The gate is active while the gate path's filtered level is HIGH (R5). -/
def State.gateActive (s : State) : Bool := s.time.gate.level == .high

/-- RUNNING if the gate is active, HELD if not (R14, R16). -/
def State.gatedRun (s : State) : RunState := if s.gateActive then .running else .held

end Sys2Proof.Machine
end

