-- ==== Sys2Proof/Machine/Ballot.lean ====
section
/-! DEFINITION. The settings and ballot unit (chapter 8): resulting settings, application of a passed ballot to the
record and the time base (R16, R149), closing a ballot, and electors leaving. -/

namespace Sys2Proof.Machine

/-! ## Resulting settings (R136) -/

/-- The record with each present field replaced by its proposed value. -/
def Settings.updated (st : Settings) (p : Proposal) : Settings where
  period := p.period.getD st.period
  divider := p.divider.getD st.divider
  mode := p.mode.getD st.mode
  budget := p.budget.getD st.budget
  triggerSource := p.triggerSource.getD st.triggerSource
  gateSource := p.gateSource.getD st.gateSource
  timingFilter := p.timingFilter.getD st.timingFilter
  quota := Bank.build fun a => (p.quota.read a).getD (st.quota.read a)
  pairSetup := Bank.build fun k => (p.pairSetup.read k).getD (st.pairSetup.read k)
  idleLevel := Bank.build fun d => (p.idleLevel.read d).getD (st.idleLevel.read d)

/-- The sum of the four quotas (R135, R136). -/
def Settings.quotaSum (st : Settings) : Nat := ((List.finRange 4).map fun a => st.quota.read a).sum

/-- Rules 3 and 4 of R136: a mode has the source it calls for. -/
def Settings.sourced (st : Settings) : Bool :=
  match st.mode with
  | .free => true
  | .triggered => st.triggerSource.isSome
  | .restart => st.triggerSource.isSome
  | .gated => st.gateSource.isSome

/-! ## The run state after an application (R16) -/

/-- A start from STOPPED by an applied RUN, or from ARMED by a change of mode: the rows of R16 by mode. -/
def Mode.start (gateActive : Bool) : Mode → RunState
  | .triggered => .armed
  | .free => .running
  | .restart => .running
  | .gated => if gateActive then .running else .held

/-- The table of R16. `before` and `after` are the modes before and after the change. At a boundary, RUNNING becomes
HELD in GATED mode only when the new cycle begins (R14). -/
def RunState.afterSettings (field : Option RunField) (before after : Mode) (gateActive : Bool) : RunState → RunState
  | .stopped => if field = some .run then after.start gateActive else .stopped
  | .armed => if field = some .stop then .stopped else after.start gateActive
  | .running =>
    if field = some .stop then .stopped
    else if after = .triggered ∧ before ≠ .triggered then .armed
    else .running
  | .held =>
    if field = some .stop then .stopped
    else if after = .triggered ∧ before ≠ .triggered then .armed
    else .held

/-- R10: an application loads the budget when it carries RUN, when it carries a budget field, and at a start. -/
def Proposal.loadsBudget (p : Proposal) (before after : RunState) : Bool :=
  p.run == some .run || p.budget.isSome || (!before.isRunning && after.isRunning)

/-- The trigger path is reloaded when its source or the timing filter changes (R6). -/
def Settings.reloadsTrigger (old new : Settings) : Bool :=
  old.triggerSource != new.triggerSource || old.timingFilter != new.timingFilter

/-- The gate path is reloaded when its source or the timing filter changes (R6). -/
def Settings.reloadsGate (old new : Settings) : Bool :=
  old.gateSource != new.gateSource || old.timingFilter != new.timingFilter

def Event.isGateChange : Event → Bool
  | .gateChange _ => true
  | _ => false

/-- The paths concerned are reloaded; a reload makes no edge and no gate change, and absorbs one that has arisen and is
not yet taken (R6; log entry 11). -/
def State.reloadPaths (s : State) (old new : Settings) : State :=
  let t := old.reloadsTrigger new
  let g := old.reloadsGate new
  { s with
    time := { s.time with
      trigger := if t then .at_ (s.sourceLevel new.triggerSource) else s.time.trigger
      gate := if g then .at_ (s.sourceLevel new.gateSource) else s.time.gate }
    arisen := s.arisen.filter fun e => !((t && e == .triggerEdge) || (g && e.isGateChange)) }

/-- The time base takes a run state; entering STOPPED or ARMED from any other run state has the effects of R11. -/
def State.takeRun (s : State) (run : RunState) : State :=
  if run.isRunning then { s with time := { s.time with run := run } }
  else if run = s.time.run then s
  else s.enterIdle run

/-- Steps 1 and 2 of R149: the record takes the present fields, the paths are reloaded (R6), the budget is loaded (R10)
and the run state changes (R16). No cycle begins here. -/
def State.applySettings (s : State) (p : Proposal) : State :=
  let new := s.settings.updated p
  let s1 := { s.reloadPaths s.settings new with settings := new }
  let run := s.time.run.afterSettings p.run s.settings.mode new.mode s1.gateActive
  let s2 := if p.loadsBudget s.time.run run then s1.loadBudget else s1
  s2.takeRun run

/-- Step 5 of R149. -/
def State.emptySlot (s : State) : State := { s with ballot := { s.ballot with slot := .empty } }

/-- SETTINGS_APPLIED to every OPEN or CLOSING session (R150). -/
def State.notifySettings (s : State) (n : Cycle) (way : Way) : State :=
  s.notifyAll n (.settingsApplied s.ballot.number way)

/-- The cycle a start by applied settings begins (R3, R16). -/
def State.beginIfStarted (before : RunState) (s : State) : State :=
  if !before.isRunning && s.time.run.isRunning then s.beginCycle else s

/-- TIMEBASE_CHANGED with cause SETTINGS if the application changed the class of the run state (R12, R16). -/
def State.notifyIfChanged (before : RunState) (s : State) : State :=
  if before.runClass = s.time.run.runClass then s else s.notifyTimebase s.time.cycle .settings

/-- A passed ballot is applied at once while the time base is STOPPED or ARMED; while it runs, the ballot waits (R148).
Notices: TIMEBASE_CHANGED, then SETTINGS_APPLIED (R150). Where the application starts the time base, both carry the number
of the cycle begun (log entry 15). -/
def State.applyIfIdle (s : State) : State :=
  match s.ballot.slot with
  | .passed _ p =>
    if s.time.run.isRunning then s
    else
      let s' := (((s.applySettings p).beginIfStarted s.time.run).emptySlot).notifyIfChanged s.time.run
      s'.notifySettings s'.time.cycle .immediate
  | .empty => s
  | .openSlot _ => s

/-! ## Closing a ballot (R147) -/

/-- BALLOT_CLOSED to the proposer and to each agent still in the electorate. -/
def State.notifyClosed (s : State) (n : Cycle) (b : OpenBallot) (r : BallotResult) : State :=
  s.notifyEach n (.ballotClosed s.ballot.number r) fun a => a == b.proposer || b.electorate.read a

/-- The ballot fails: notice, last result, slot EMPTY. -/
def State.failBallot (s : State) (n : Cycle) (b : OpenBallot) (reason : FailReason) : State :=
  let s' := s.notifyClosed n b (.failed reason)
  { s' with ballot := { s.ballot with slot := .empty, last := some ⟨s.ballot.number, .failed reason⟩ } }

/-- The ballot passes: notice, last result, slot PASSED. -/
def State.passBallot (s : State) (n : Cycle) (b : OpenBallot) : State :=
  let s' := s.notifyClosed n b .passed
  { s' with ballot :=
      { s.ballot with slot := .passed b.proposer b.proposal, last := some ⟨s.ballot.number, .passed⟩ } }

/-- The slot takes the ballot `b`, which passes if every elector has accepted (R142, R146). -/
def State.holdOrPass (s : State) (n : Cycle) (b : OpenBallot) : State :=
  if b.accepted = b.electorate then s.passBallot n b
  else { s with ballot := { s.ballot with slot := .openSlot b } }

/-- Agent `a` leaves the ballot (R146). -/
def State.leaveBallot (s : State) (n : Cycle) (a : Agent) : State :=
  match s.ballot.slot with
  | .openSlot b =>
    if b.proposer = a then s.failBallot n b .proposerGone
    else if b.electorate.read a then
      s.holdOrPass n { b with
        electorate := b.electorate.write a false
        accepted := b.accepted.write a false }
    else s
  | .empty => s
  | .passed _ _ => s

/-- The deadline expiry: the open ballot fails (R144). -/
def State.expireDeadline (s : State) : State :=
  match s.ballot.slot with
  | .openSlot b => if b.deadline = 0 then s.failBallot s.time.cycle b .deadline else s
  | .empty => s
  | .passed _ _ => s

end Sys2Proof.Machine
end

