-- ==== Sys2Proof/Machine/Teardown.lean ====
section
/-! DEFINITION. The lease, and teardown: the one operation that takes back everything a session holds (sections 2.3 and
2.6). -/

namespace Sys2Proof.Machine

/-! ## The lease (R23, R24) -/

/-- A frame that reaches the session table of an OPEN or CLOSING session sets lease remaining to the interval (R23). -/
def Session.renew (q : Session) : Session :=
  if q.state.present then { q with lease := q.lease.map fun l => { l with remaining := l.interval } } else q

/-- One advance of the lease clock lowers a running lease by 1 ms (R24). -/
def Session.lowerLease (q : Session) : Session :=
  if q.state.present then { q with lease := q.lease.map fun l => { l with remaining := l.remaining - 1 } } else q

/-- Lease remaining has reached 0, so a lease expiry is to be taken (R24). -/
def Session.leaseOut (q : Session) : Bool :=
  q.state.present && (match q.lease with
    | none => false
    | some l => l.remaining == 0)

/-! ## Teardown (R32, R33) -/

/-- Every drive line of the agent is cleared and every sense line of the agent disarmed, and all of them are released
(R32). -/
def State.clearLines (s : State) (a : Agent) : State :=
  { s with
    drive := Bank.build fun d => if s.ownsDrive a d then .idle else s.line d
    sense := Bank.build fun i => if s.ownsSense a i then (s.senseLine i).disarm else s.senseLine i
    driveOwner := Bank.build fun d => if s.ownsDrive a d then none else s.driveOwner.read d
    senseOwner := Bank.build fun i => if s.ownsSense a i then none else s.senseOwner.read i }

/-- The session record after teardown: everything empty or absent, the epoch kept (R32). -/
def State.vacate (s : State) (a : Agent) (after : SessionState) : State :=
  s.setSession a (.vacant after (s.session a).epoch)

/-- Teardown of agent `a`, whose session becomes `after`; its notices are numbered `n`. The ballot effects come before
PEER_LEFT, and reach only sessions still OPEN or CLOSING (R32, R33). A ballot that passes here stays PASSED: `tearDownNow`
applies it. -/
def State.tearDown (s : State) (n : Cycle) (a : Agent) (after : SessionState) (reason : LeaveReason) : State :=
  (((s.clearLines a).vacate a after).leaveBallot n a).notifyOthers n (.peerLeft a (s.session a).epoch reason) a

/-- Teardown outside a boundary: a ballot that passes in it is applied at once while the time base is STOPPED or ARMED,
after PEER_LEFT (R32, R146, R148). -/
def State.tearDownNow (s : State) (a : Agent) (after : SessionState) (reason : LeaveReason) : State :=
  (s.tearDown s.time.cycle a after reason).applyIfIdle

/-- The lease expiry of agent `a` (R24). -/
def State.expireLease (s : State) (a : Agent) : State :=
  if (s.session a).leaseOut then s.tearDownNow a .expired .expired else s

/-- What PORT_RESET does to the session record (R36). -/
def State.resetSession (s : State) (a : Agent) : State :=
  if (s.session a).state.present then s.tearDownNow a .closed .portReset
  else s.setSession a { s.session a with state := .closed, lease := none, commit := .none }

end Sys2Proof.Machine
end

