-- ==== Sys2Proof/Machine/Boundary.lean ====
section
/-! DEFINITION. The exchange (section 5.3) and the boundary with its five parts (R13, R14), count advances (R1), trigger
edges (R7) and gate changes (R9). -/

namespace Sys2Proof.Machine

/-! ## The exchange (R88, R91) -/

/-- The exchange of agent `a`: its part becomes a copy of its staging list, with applied cycle `n`, and COMMIT_APPLIED
is queued. -/
def State.exchange (s : State) (n : Cycle) (way : Way) (a : Agent) : State :=
  let q := s.session a
  (s.setSession a { q with active := q.staging, applied := some n, commit := .none }).notify n
    (.commitApplied q.staging.length way) a

/-- Part 2 for one agent: a PENDING commit is exchanged (R90). -/
def State.exchangePending (n : Cycle) (s : State) (a : Agent) : State :=
  match (s.session a).commit with
  | .none => s
  | .pending _ => s.exchange n .boundary a

/-! ## The five parts (R13) -/

/-- Part 1: the countdown of a normal boundary's final count advance, then the budget. -/
def State.closeCycle (s : State) (n : Cycle) (normal : Bool) : State :=
  (if normal then s.countdown n else s).examineBudget

/-- Part 2: every PENDING commit is exchanged. -/
def State.exchangeAll (s : State) (n : Cycle) : State := (List.finRange 4).foldl (State.exchangePending n) s

/-- Part 3: a PASSED ballot's settings are applied, on the run state part 1 left (R16, R149, R150). -/
def State.applyAtBoundary (s : State) (n : Cycle) : State :=
  match s.ballot.slot with
  | .passed _ p => ((s.applySettings p).emptySlot).notifySettings n .boundary
  | .empty => s
  | .openSlot _ => s

/-- The sessions that part 4 tears down. -/
def State.closingAgents (s : State) : List Agent :=
  (List.finRange 4).filter fun a => (s.session a).state == .closing

/-- Part 4: every CLOSING session is torn down, in an order the spec leaves open (R34; log entry 6). -/
def State.tearDownClosing (s : State) (n : Cycle) : State :=
  takeInAnyOrder (fun a t => t.tearDown n a .closed .closed) 4 s.closingAgents s

/-! ## Completion (R14) and the number after the boundary (R17) -/

/-- The run state that the boundary's parts 1 and 3 lead to, as far as its class: it decides whether a cycle begins. -/
def State.runAfterBoundary (s : State) : RunState :=
  let r := if s.time.budgetRemaining = 1 then s.settings.mode.afterRunOut else s.time.run
  match s.ballot.slot with
  | .passed _ p => r.afterSettings p.run s.settings.mode (p.mode.getD s.settings.mode) false
  | .empty => r
  | .openSlot _ => r

/-- The cycle number after the boundary, which every notice created in it carries (R17, R90). -/
def State.cycleAfterBoundary (s : State) : Cycle :=
  if s.runAfterBoundary.isRunning then s.time.cycle + 1 else s.time.cycle

/-- R14: a new cycle begins if the time base still runs; in GATED mode the gate path sets its run state. -/
def State.completeBoundary (s : State) : State :=
  if s.time.run.isRunning then
    let run := if s.settings.mode = .gated then s.gatedRun else .running
    ({ s with time := { s.time with run := run } }).beginCycle
  else s

/-- The boundary's single TIMEBASE_CHANGED, if it changed the class of the run state: `r1` is the run state after part
1, `r3` after part 3 (R12). -/
def State.notifyBoundary (s : State) (n : Cycle) (r1 r3 : RunState) : State :=
  if r3.runClass ≠ r1.runClass then s.notifyTimebase n .settings
  else if r1.isRunning then s
  else s.notifyTimebase n .budgetEnd

/-- A boundary of the running time base: normal, with the final count advance, or early (R4, R13, R14). -/
def State.boundary (s : State) (normal : Bool) : State :=
  let n := s.cycleAfterBoundary
  let s1 := s.closeCycle n normal
  let s3 := (s1.exchangeAll n).applyAtBoundary n
  let s5 := (s3.tearDownClosing n).lapseDeferrals n
  s5.completeBoundary.notifyBoundary n s1.time.run s3.time.run

/-! ## Count advances (R1, R2) -/

/-- A count advance, taken while RUNNING: the countdown, then the count reached with its due entries, or the boundary at
period−1 (R1, R101, R106). -/
def State.advanceCount (s : State) : State :=
  if s.time.run = .running then
    let s0 := { s with time := { s.time with phase := 0 } }
    if s.time.count + 1 < s.settings.period then
      let s1 := s0.countdown s.time.cycle
      ({ s1 with time := { s1.time with count := s.time.count + 1 } }).reach (s.time.count + 1)
    else s0.boundary true
  else s

/-! ## Trigger edges (R7, R8) -/

/-- A trigger start from ARMED (R7). -/
def State.triggerStart (s : State) : State :=
  let s1 := s.loadBudget
  let s2 := ({ s1 with time := { s1.time with run := .running } }).beginCycle
  s2.notifyTimebase s2.time.cycle .triggerStart

/-- What a trigger edge does, by run state and mode (R7). -/
def State.useTrigger (s : State) : State :=
  match s.time.run, s.settings.mode with
  | .armed, .triggered => s.triggerStart
  | .running, .restart => s.boundary false
  | .armed, .free => s
  | .armed, .restart => s
  | .armed, .gated => s
  | .running, .free => s
  | .running, .triggered => s
  | .running, .gated => s
  | .held, _ => s
  | .stopped, _ => s

/-- The source's line showed the level that changed its path (R5). -/
def State.showLevel (s : State) (i : Sense) (l : Level) : State :=
  s.setSenseLine i { s.senseLine i with sample := l }

/-- A trigger edge: the trigger path's filtered level becomes HIGH, and the time base takes the edge. A path whose source
is none produces no edges (R5, R7). -/
def State.takeTriggerEdge (s : State) : State :=
  match s.settings.triggerSource with
  | none => s
  | some i => ({ s.showLevel i .high with time := { s.time with trigger := .at_ .high } }).useTrigger

/-! ## Gate changes (R9) -/

/-- What a change of gate activity does (R9). -/
def State.useGate (s : State) (level : Level) : State :=
  if s.settings.mode ≠ .gated then s
  else if s.time.run = .running ∧ level = .low then
    { s.dropCountAdvance with time := { s.time with run := .held } }
  else if s.time.run = .held ∧ level = .high then
    let s' := { s with time := { s.time with run := .running } }
    if s.time.originReached then s' else s'.reach 0
  else s

/-- A change of gate activity: the gate path's filtered level becomes `level`, and the time base takes the change. A path
whose source is none produces no gate (R5, R9). -/
def State.takeGateChange (s : State) (level : Level) : State :=
  match s.settings.gateSource with
  | none => s
  | some i => ({ s.showLevel i level with time := { s.time with gate := .at_ level } }).useGate level

end Sys2Proof.Machine
end

