-- ==== Sys2Proof/Machine/Operands.lean ====
section
/-! DEFINITION. The operand forms: every field of a command payload read by its encoding (chapter 11), with the range
checks R173 gives to the owning block. Payloads are read by position (R172). -/

namespace Sys2Proof.Machine

/-! ## Bytes and fields (section 11.2) -/

/-- The byte at a position of a payload. -/
def byteAt (bs : List Byte) (i : Nat) : Nat := (bs.getD i 0).toNat

/-- A two-byte field, most significant byte first. -/
def halfAt (bs : List Byte) (i : Nat) : Nat := 256 * byteAt bs i + byteAt bs (i + 1)

/-- A drive set: bit n of the two bytes for Dn. -/
def driveSetAt (bs : List Byte) (i : Nat) : Bank Bool 16 := Bank.build fun d => (halfAt bs i).testBit d.val

/-- A sense set: bit n of the byte for Sn. -/
def senseSetAt (bs : List Byte) (i : Nat) : Bank Bool 8 := Bank.build fun j => (byteAt bs i).testBit j.val

/-- The drive set and sense set of RESERVE and RELEASE (section 11.3). -/
def lineSetsOf (bs : List Byte) : LineSets := ⟨driveSetAt bs 0, senseSetAt bs 2⟩

/-- A number that must be below a bound, as an index. -/
def indexBelow (n : Nat) (k : Nat) : Option (Fin n) := if h : k < n then some ⟨k, h⟩ else none

/-! ## Entry fields (R56, R173, section 11.4) -/

/-- The target byte: bits 7–6 kind, bits 5–0 line number (R173). -/
def targetOf (k : Nat) : Option Target :=
  match k / 64 with
  | 0 => (indexBelow 16 (k % 64)).map .drive
  | 1 => (indexBelow 8 (k % 64)).map .sense
  | 2 => if k % 64 = 0 then some .marker else none
  | _ => none

/-- The action with its width and label, each present exactly where the action calls for it (R56, R173). -/
def actionOf (code width : Nat) (label : Byte) : Option Action :=
  if code = 4 then if width ≠ 0 ∧ label = 0 then some (.pulse width) else none
  else if width ≠ 0 then none
  else if code = 7 then some (.mark label)
  else if label ≠ 0 then none
  else match code with
    | 1 => some .assert
    | 2 => some .deassert
    | 3 => some .toggle
    | 5 => some .arm
    | 6 => some .disarm
    | _ => none

/-- The cadence: interval 0 with phase 0 is an absent one (R56). -/
def cadenceOf (interval phase : Nat) : Option (Option Cadence) :=
  if interval = 0 then if phase = 0 then some none else none
  else if interval ≤ 16 ∧ phase < interval then some (some ⟨interval, phase⟩) else none

/-- The replaceable fields of an entry: what AMEND_ENTRY carries (R67). -/
structure EntryFields where
  action : Action
  offset : Nat
  cadence : Option Cadence
  deriving DecidableEq, Repr

/-- The fields that STAGE_ENTRY and AMEND_ENTRY both carry at bytes 1 to 8 (section 11.3). -/
def entryFieldsOf (bs : List Byte) : Option EntryFields :=
  match actionOf (byteAt bs 1) (halfAt bs 4) (bs.getD 8 0), cadenceOf (byteAt bs 6) (byteAt bs 7) with
  | some act, some c => some ⟨act, halfAt bs 2, c⟩
  | some _, none => none
  | none, _ => none

/-- The table of R56: which actions suit a target. -/
def Action.suits : Action → Target → Bool
  | .assert, .drive _ => true
  | .deassert, .drive _ => true
  | .toggle, .drive _ => true
  | .pulse _, .drive _ => true
  | .arm, .sense _ => true
  | .disarm, .sense _ => true
  | .mark _, .marker => true
  | .assert, .sense _ => false
  | .assert, .marker => false
  | .deassert, .sense _ => false
  | .deassert, .marker => false
  | .toggle, .sense _ => false
  | .toggle, .marker => false
  | .pulse _, .sense _ => false
  | .pulse _, .marker => false
  | .arm, .drive _ => false
  | .arm, .marker => false
  | .disarm, .drive _ => false
  | .disarm, .marker => false
  | .mark _, .drive _ => false
  | .mark _, .sense _ => false

/-- What STAGE_ENTRY carries: a target and fields that suit it (check 2 of R65). -/
def stageOf (bs : List Byte) : Option (Target × EntryFields) :=
  match targetOf (byteAt bs 0), entryFieldsOf bs with
  | some t, some f => if f.action.suits t then some (t, f) else none
  | some _, none => none
  | none, _ => none

/-- A handle or start handle, 0–127. -/
def handleOf (k : Nat) : Option Nat := if k < Config.entryCapacity then some k else none

/-! ## Sense setup (R120) -/

def edgeSelectOf : Nat → Option EdgeSelect
  | 1 => some .rising
  | 2 => some .falling
  | 3 => some .both
  | _ => none

def prescaleOf (k : Nat) : Option Nat := if k = 1 ∨ k = 2 ∨ k = 4 ∨ k = 8 then some k else none

structure SenseSetup where
  line : Sense
  select : EdgeSelect
  prescale : Nat
  filter : Nat
  deriving DecidableEq, Repr

/-- Check 1 of R120. -/
def senseSetupOf (bs : List Byte) : Option SenseSetup :=
  match indexBelow 8 (byteAt bs 0), edgeSelectOf (byteAt bs 1), prescaleOf (byteAt bs 2) with
  | some i, some e, some k => if byteAt bs 3 ≤ 15 then some ⟨i, e, k, byteAt bs 3⟩ else none
  | some _, some _, none => none
  | some _, none, _ => none
  | none, _, _ => none

/-! ## The settings record of a proposal (section 11.4, R136, R173) -/

/-- Bytes 0 to 2: the presence bits of the single fields, the quotas and the pair setups. -/
def fieldPresent (r : List Byte) (bit : Nat) : Bool := (byteAt r 0).testBit bit

def quotaPresent (r : List Byte) (a : Agent) : Bool := (byteAt r 1).testBit a.val

def pairPresent (r : List Byte) (k : Pair) : Bool := (byteAt r 2).testBit k.val

def idlePresent (r : List Byte) (d : Drive) : Bool := (halfAt r 3).testBit d.val

/-- 0000H means 65536. -/
def periodAt (r : List Byte) : Nat := if halfAt r 5 = 0 then 65536 else halfAt r 5

def modeOf : Nat → Mode
  | 0 => .free
  | 1 => .triggered
  | 2 => .restart
  | _ => .gated

/-- A source: 00H none, 01H–08H S0–S7. -/
def sourceOf (k : Nat) : Option Sense := if k = 0 then none else indexBelow 8 (k - 1)

/-- A pair-setup field: bit 15 interlock, bits 9–0 guard. -/
def pairSetupAt (r : List Byte) (k : Pair) : PairSetup :=
  ⟨(halfAt r (20 + 2 * k.val)).testBit 15, halfAt r (20 + 2 * k.val) % 1024⟩

/-- Bits 14–10 of a pair-setup field are unused. -/
def pairUnusedBits (r : List Byte) (k : Pair) : Nat := halfAt r (20 + 2 * k.val) / 1024 % 32

/-- A set unused presence bit, or a set unused bit of a present pair-setup field: BAD_ARGUMENT at check 2 (R173). -/
def unusedBitSet (r : List Byte) : Bool :=
  byteAt r 1 / 16 != 0 || (List.finRange 8).any fun k => pairPresent r k && pairUnusedBits r k != 0

/-- `x` where the presence bit is set. -/
def whenPresent {α : Type} (b : Bool) (x : α) : Option α := if b then some x else none

/-- The proposal a settings record carries. Fields out of range are found by `rangeFault` first. -/
def proposalOf (r : List Byte) : Proposal where
  period := whenPresent (fieldPresent r 7) (periodAt r)
  divider := whenPresent (fieldPresent r 6) (halfAt r 7)
  mode := whenPresent (fieldPresent r 5) (modeOf (byteAt r 9))
  run := whenPresent (fieldPresent r 4) (if byteAt r 10 = 1 then .run else .stop)
  budget := whenPresent (fieldPresent r 3) (halfAt r 11)
  triggerSource := whenPresent (fieldPresent r 2) (sourceOf (byteAt r 13))
  gateSource := whenPresent (fieldPresent r 1) (sourceOf (byteAt r 14))
  timingFilter := whenPresent (fieldPresent r 0) (byteAt r 15)
  quota := Bank.build fun a => whenPresent (quotaPresent r a) (byteAt r (16 + a.val))
  pairSetup := Bank.build fun k => whenPresent (pairPresent r k) (pairSetupAt r k)
  idleLevel := Bank.build fun d => whenPresent (idlePresent r d) (if (halfAt r 36).testBit d.val then .high else .low)

/-- The present fields out of range (R135, R173), in the order in which R135 lists the fields, the run field last (log
entry 19). Every budget, guard and idle level the encoding admits is in range. -/
def rangeChecks (r : List Byte) : List (Bool × SettingField) :=
  [ (fieldPresent r 7 && periodAt r < 2, .period),
    (fieldPresent r 6 && (halfAt r 7 < 1 || 4096 < halfAt r 7), .divider),
    (fieldPresent r 5 && 3 < byteAt r 9, .mode),
    (fieldPresent r 2 && 8 < byteAt r 13, .triggerSource),
    (fieldPresent r 1 && 8 < byteAt r 14, .gateSource),
    (fieldPresent r 0 && 15 < byteAt r 15, .timingFilter),
    ((List.finRange 4).any (fun a => quotaPresent r a && 128 < byteAt r (16 + a.val)), .quota),
    (fieldPresent r 4 && byteAt r 10 != 1 && byteAt r 10 != 2, .run) ]

/-- The field a refusal with cause RANGE names. -/
def rangeFault (r : List Byte) : Option SettingField := ((rangeChecks r).find? fun x => x.1).map fun x => x.2

/-- No field at all is present (rule 1 of R136). -/
def recordEmpty (r : List Byte) : Bool :=
  byteAt r 0 == 0 && byteAt r 1 % 16 == 0 && byteAt r 2 == 0 && halfAt r 3 == 0

end Sys2Proof.Machine
end

