-- ==== Sys2Proof/Machine/Codec.lean ====
section
/-! DEFINITION. What the part sends, byte by byte (chapter 11): field encodings, record layouts, response payloads and
the frames that a FETCH shifts out. -/

namespace Sys2Proof.Machine

/-! ## Field encodings (section 11.2) -/

def byte (n : Nat) : Byte := BitVec.ofNat 8 n

/-- Two bytes, most significant first. -/
def half (n : Nat) : List Byte := [byte (n / 256), byte n]

/-- Four bytes, most significant first. -/
def cycleBytes (c : Cycle) : List Byte :=
  [byte (c.toNat / 16777216), byte (c.toNat / 65536), byte (c.toNat / 256), byte c.toNat]

/-- YES 01H, NO 00H; the same for ON and OFF, ASSERTED and DEASSERTED, ARMED and DISARMED. -/
def flagByte (b : Bool) : Byte := if b then 1 else 0

/-- Bit n set for member n. -/
def setBits {n : Nat} (b : Bank Bool n) : Nat := ((List.finRange n).map fun i => if b.read i then 2 ^ i.val else 0).sum

def driveSetBytes (b : Bank Bool 16) : List Byte := half (setBits b)

def smallSetByte {n : Nat} (b : Bank Bool n) : Byte := byte (setBits b)

def lineSetsBytes (x : LineSets) : List Byte := driveSetBytes x.drives ++ [smallSetByte x.senses]

/-- A one-byte field that may be absent: FFH. -/
def optionByte (x : Option Nat) : Byte := match x with
  | none => 0xFF
  | some k => byte k

/-- A count that may be absent: FFFFH. -/
def optionHalf (x : Option Nat) : List Byte := match x with
  | none => half 0xFFFF
  | some k => half k

/-- A period: 0000H means 65536. -/
def periodBytes (n : Nat) : List Byte := half (n % 65536)

/-- A cycle number that may be absent: a presence byte, then the 4 bytes (free where absent, log entry 18). -/
def optionCycle (tag : Byte) : Option Cycle → List Byte
  | none => 0 :: (List.range 4).map (Config.absentByte tag)
  | some c => 1 :: cycleBytes c

/-- A ballot number that may be absent: a presence byte, then the 2 bytes (free where absent, log entry 18). -/
def optionBallot (tag : Byte) : Option Half → List Byte
  | none => 0 :: (List.range 2).map (Config.absentByte tag)
  | some n => 1 :: half n.toNat

def SessionState.code : SessionState → Byte
  | .closed => 0
  | .openState => 1
  | .closing => 2
  | .expired => 3

def RunState.code : RunState → Byte
  | .stopped => 0
  | .armed => 1
  | .running => 2
  | .held => 3

def Mode.code : Mode → Byte
  | .free => 0
  | .triggered => 1
  | .restart => 2
  | .gated => 3

def RunField.code : RunField → Byte
  | .run => 1
  | .stop => 2

def SlotState.code : SlotState → Byte
  | .empty => 0
  | .openState => 1
  | .passed => 2

def levelCode : Level → Byte
  | .low => 0
  | .high => 1

def EdgeSelect.code : EdgeSelect → Byte
  | .rising => 1
  | .falling => 2
  | .both => 3

def sourceCode : Option Sense → Byte
  | none => 0
  | some i => byte (i.val + 1)

def LossSource.code : LossSource → Byte
  | .sense i => byte i.val
  | .marker => 8

def LeaveReason.code : LeaveReason → Byte
  | .closed => 0
  | .expired => 1
  | .portReset => 2

def FailReason.code : FailReason → Byte
  | .rejected _ => 0
  | .withdrawn => 1
  | .deadline => 2
  | .proposerGone => 3

def Outcome.code : Outcome → Byte
  | .openBallot => 0
  | .passed => 1
  | .applied => 2
  | .failed => 3

def Way.code : Way → Byte
  | .boundary => 0
  | .immediate => 1

def Cause.code : Cause → Byte
  | .triggerStart => 0
  | .budgetEnd => 1
  | .settings => 2

def Forcing.code : Forcing → Byte
  | .free => 0
  | .forcedAsserted => 1
  | .forcedDeasserted => 2

def CommitState.code : CommitState → Byte
  | .none => 0
  | .pending _ => 1

def Action.code : Action → Byte
  | .assert => 1
  | .deassert => 2
  | .toggle => 3
  | .pulse _ => 4
  | .arm => 5
  | .disarm => 6
  | .mark _ => 7

/-- The kind of a capture record as a notice carries it: an enumeration that the table of section 11.2 does not hold, so 00H
EDGE, 01H MARK. Byte 0 of a capture record has codes of its own (section 11.4). -/
def RecordKind.code : RecordKind → Byte
  | .edge _ _ _ => 0
  | .mark _ => 1

/-- The codes of settings fields in INVALID_SETTING: from 00H in the order of R135, the run field last (log entry
19). -/
def SettingField.code : SettingField → Byte
  | .period => 0
  | .divider => 1
  | .mode => 2
  | .budget => 3
  | .triggerSource => 4
  | .gateSource => 5
  | .timingFilter => 6
  | .quota => 7
  | .pairSetup => 8
  | .idleLevel => 9
  | .run => 10

/-- The status codes, from 00H in the order of section 11.2. -/
def Status.code : Status → Byte
  | .ok => 0x00
  | .applied => 0x01
  | .pending => 0x02
  | .noSession => 0x03
  | .sessionExpired => 0x04
  | .sessionClosing => 0x05
  | .alreadyOpen => 0x06
  | .badFrame => 0x07
  | .unknownCommand => 0x08
  | .badArgument => 0x09
  | .offsetRange => 0x0A
  | .lineTaken => 0x0B
  | .lineNotOwned => 0x0C
  | .lineInUse => 0x0D
  | .ballotLock => 0x0E
  | .quotaFull => 0x0F
  | .duplicate => 0x10
  | .noSuchHandle => 0x11
  | .stagingFrozen => 0x12
  | .commitPending => 0x13
  | .nothingPending => 0x14
  | .invalidEntry => 0x15
  | .interlock => 0x16
  | .ballotBusy => 0x17
  | .staleBallot => 0x18
  | .notElector => 0x19
  | .alreadyVoted => 0x1A
  | .notProposer => 0x1B
  | .invalidSetting => 0x1C
  | .offsetConflict => 0x1D
  | .quotaConflict => 0x1E
  | .lineReserved => 0x1F

/-! ## Record layouts (section 11.4) -/

/-- Bits 7–6 kind, bits 5–0 line number. -/
def Target.code : Target → Byte
  | .drive d => byte d.val
  | .sense i => byte (64 + i.val)
  | .marker => 0x80

/-- The line number of a target (the answer LINE_NOT_OWNED names it). -/
def Target.lineNumber : Target → Byte
  | .drive d => byte d.val
  | .sense i => byte i.val
  | .marker => 0

def Action.width : Action → Nat
  | .pulse w => w
  | .assert => 0
  | .deassert => 0
  | .toggle => 0
  | .arm => 0
  | .disarm => 0
  | .mark _ => 0

def Action.label : Action → Byte
  | .mark b => b
  | .assert => 0
  | .deassert => 0
  | .toggle => 0
  | .pulse _ => 0
  | .arm => 0
  | .disarm => 0

def cadenceBytes : Option Cadence → List Byte
  | none => [0, 0]
  | some c => [byte c.interval, byte c.phase]

/-- Bytes 2 to 9 of an entry record: the fields that AMEND_ENTRY carries after its handle. -/
def EntryFields.bytes (f : EntryFields) : List Byte :=
  f.action.code :: half f.offset ++ half f.action.width ++ cadenceBytes f.cadence ++ [f.action.label]

def Entry.fields (e : Entry) : EntryFields := ⟨e.action, e.offset, e.cadence⟩

/-- The 10 bytes of an entry record. -/
def Entry.bytes (e : Entry) : List Byte := byte e.handle :: e.target.code :: e.fields.bytes

/-- The 11 bytes of a capture record; byte 0 is 01H for EDGE and 02H for MARK (section 11.4). -/
def CaptureRecord.bytes (r : CaptureRecord) : List Byte :=
  let head : List Byte := match r.kind with
    | .edge i e idle => [1, byte i.val, byte ((if e = .falling then 1 else 0) + (if idle then 2 else 0))]
    | .mark label => [2, label, 0]
  head ++ half r.sequence.toNat ++ cycleBytes r.cycle ++ half r.count

/-- A ballot result with its reason and the agent it names, FFH where absent. -/
def BallotResult.bytes : BallotResult → List Byte
  | .passed => [0, 0xFF, 0xFF]
  | .failed (.rejected a) => [1, FailReason.code (.rejected a), byte a.val]
  | .failed .withdrawn => [1, FailReason.code .withdrawn, 0xFF]
  | .failed .deadline => [1, FailReason.code .deadline, 0xFF]
  | .failed .proposerGone => [1, FailReason.code .proposerGone, 0xFF]

/-- The kinds of the table of section 9.2, from 00H. -/
def NoticeKind.code : NoticeKind → Byte
  | .commitApplied _ _ => 0
  | .ballotOpened _ _ _ => 1
  | .ballotClosed _ _ => 2
  | .settingsApplied _ _ => 3
  | .timebaseChanged _ _ _ _ => 4
  | .captureReady _ _ => 5
  | .captureOverrun _ _ => 6
  | .interlockResolved _ _ _ => 7
  | .peerJoined _ _ => 8
  | .peerLeft _ _ _ => 9
  | .noticesLost _ _ => 10

/-- The kind data of a notice, in the order of the table of section 9.2, a count in 2 bytes (section 11.2). -/
def NoticeKind.data : NoticeKind → List Byte
  | .commitApplied count way => half count ++ [way.code]
  | .ballotOpened number proposer deadline => half number.toNat ++ [byte proposer.val] ++ half deadline
  | .ballotClosed number result => half number.toNat ++ result.bytes
  | .settingsApplied number way => half number.toNat ++ [way.code]
  | .timebaseChanged run mode cause budget => [run.code, mode.code, cause.code] ++ half budget
  | .captureReady sequence kind => half sequence.toNat ++ [kind.code]
  | .captureOverrun source sequence => source.code :: half sequence.toNat
  | .interlockResolved line deferred taken => byte line.val :: cycleBytes deferred ++ [if taken then 0 else 1]
  | .peerJoined agent epoch => [byte agent.val, epoch]
  | .peerLeft agent epoch reason => [byte agent.val, epoch, reason.code]
  | .noticesLost count first => half count ++ cycleBytes first

/-- The 11 bytes of a notice record; data bytes the kind does not use are 00H. -/
def Notice.bytes (x : Notice) : List Byte :=
  x.kind.code :: cycleBytes x.cycle ++ (x.kind.data ++ List.replicate (6 - x.kind.data.length) 0)

/-- A pair-setup field: bit 15 interlock, bits 9–0 guard. -/
def PairSetup.bytes (x : PairSetup) : List Byte := half ((if x.interlock then 32768 else 0) + x.guard)

/-- A field of a settings record: its bytes where present, free bytes where absent (log entry 18). -/
def fieldBytes {α : Type} (tag : Byte) (place width : Nat) (f : α → List Byte) : Option α → List Byte
  | some x => f x
  | none => (List.range width).map fun i => Config.absentByte tag (place + i)

/-- The presence bits of byte 0. -/
def Proposal.presence (p : Proposal) : Nat :=
  (if p.period.isSome then 128 else 0) + (if p.divider.isSome then 64 else 0) + (if p.mode.isSome then 32 else 0)
    + (if p.run.isSome then 16 else 0) + (if p.budget.isSome then 8 else 0) + (if p.triggerSource.isSome then 4 else 0)
    + (if p.gateSource.isSome then 2 else 0) + (if p.timingFilter.isSome then 1 else 0)

def presentSet {α : Type} {n : Nat} (b : Bank (Option α) n) : Bank Bool n := Bank.build fun i => (b.read i).isSome

/-- The idle levels of a record: bit n set for HIGH on Dn; the bits of absent lines are free (log entry 18). -/
def idleBits (tag : Byte) (b : Bank (Option Level) 16) : List Byte :=
  driveSetBytes (Bank.build fun d => match b.read d with
    | some l => l == .high
    | none => (Config.absentByte tag (36 + d.val)).getLsbD 0)

/-- The 38 bytes of a settings record. -/
def Proposal.bytes (tag : Byte) (p : Proposal) : List Byte :=
  [byte p.presence, smallSetByte (presentSet p.quota), smallSetByte (presentSet p.pairSetup)]
    ++ driveSetBytes (presentSet p.idleLevel)
    ++ fieldBytes tag 5 2 periodBytes p.period
    ++ fieldBytes tag 7 2 half p.divider
    ++ fieldBytes tag 9 1 (fun m : Mode => [m.code]) p.mode
    ++ fieldBytes tag 10 1 (fun r : RunField => [r.code]) p.run
    ++ fieldBytes tag 11 2 half p.budget
    ++ fieldBytes tag 13 1 (fun x => [sourceCode x]) p.triggerSource
    ++ fieldBytes tag 14 1 (fun x => [sourceCode x]) p.gateSource
    ++ fieldBytes tag 15 1 (fun n => [byte n]) p.timingFilter
    ++ (List.finRange 4).flatMap (fun a => fieldBytes tag (16 + a.val) 1 (fun n => [byte n]) (p.quota.read a))
    ++ (List.finRange 8).flatMap (fun k => fieldBytes tag (20 + 2 * k.val) 2 PairSetup.bytes (p.pairSetup.read k))
    ++ idleBits tag p.idleLevel

/-- The proposal that carries no field. -/
def Proposal.blank : Proposal where
  period := none
  divider := none
  mode := none
  run := none
  budget := none
  triggerSource := none
  gateSource := none
  timingFilter := none
  quota := Bank.fill 4 none
  pairSetup := Bank.fill 8 none
  idleLevel := Bank.fill 16 none

/-- The current record with every field present and the run field of R151. -/
def Settings.full (st : Settings) (field : RunField) : Proposal where
  period := some st.period
  divider := some st.divider
  mode := some st.mode
  run := some field
  budget := some st.budget
  triggerSource := some st.triggerSource
  gateSource := some st.gateSource
  timingFilter := some st.timingFilter
  quota := Bank.build fun a => some (st.quota.read a)
  pairSetup := Bank.build fun k => some (st.pairSetup.read k)
  idleLevel := Bank.build fun d => some (st.idleLevel.read d)

/-! ## Parts of response payloads -/

def Bound.bytes (tag : Byte) (b : Bound) : List Byte :=
  byte b.limit :: (if b.ballot.isSome then 1 else 0) :: optionBallot tag b.ballot

def PeriodLimit.bytes (tag : Byte) (x : PeriodLimit) : List Byte := periodBytes x.period ++ optionBallot tag x.ballot

/-- A list preceded by the number of its items (R172), a count of 2 bytes (log entry 17). -/
def listBytes {α : Type} (f : α → List Byte) (xs : List α) : List Byte := half xs.length ++ xs.flatMap f

/-- The deferred assert of a line report: kind, width and cycle deferred (R116). -/
def deferredBytes (tag : Byte) : Option Deferred → List Byte
  | none => 0xFF :: half 0 ++ optionCycle tag none
  | some x => (match x.kind with
      | .assert => 0 :: half 0
      | .pulse w => 1 :: half w) ++ optionCycle tag (some x.cycle)

def LineReport.bytes (tag : Byte) (r : LineReport) : List Byte :=
  [flagByte r.line.asserted, r.line.forcing.code] ++ half (r.line.pulseEnd.getD 0)
    ++ deferredBytes tag r.line.deferred ++ half r.line.guardRemaining
    ++ [flagByte r.setup.interlock] ++ half r.setup.guard

def EntryFault.bytes (tag : Byte) : EntryFault → List Byte
  | .quota bound count => 0 :: bound.bytes tag ++ half count
  | .lineNotOwned handle target => [1, byte handle, target.lineNumber]
  | .offsetRange handle limit => [2, byte handle] ++ limit.bytes tag
  | .interlock handle conflicting => [3, byte handle, byte conflicting]

/-- The cause, and the field for RANGE. For any other cause the field is absent, and FFH stands in its place (log entry
29). -/
def SettingFault.bytes : SettingFault → List Byte
  | .empty => [0, 0xFF]
  | .range field => [1, field.code]
  | .modeSource => [2, 0xFF]
  | .quotaSum => [3, 0xFF]

/-- A last result: a presence byte, then number, result, reason and agent named. -/
def lastBytes : Option LastResult → List Byte
  | none => [0]
  | some x => 1 :: half x.number.toNat ++ x.result.bytes

/-- The ballot as READ_BALLOT returns it (R151). In EMPTY the proposal's place holds a record with no field present. -/
def Ballot.bytes (tag : Byte) (b : Ballot) : List Byte :=
  b.slot.state.code :: half b.number.toNat ++ lastBytes b.last ++
    match b.slot with
    | .empty => 0xFF :: Proposal.blank.bytes tag ++ [0xFF, 0xFF] ++ half 0xFFFF ++ driveSetBytes (emptySet 16)
    | .openSlot x => byte x.proposer.val :: x.proposal.bytes tag
        ++ [smallSetByte x.electorate, smallSetByte x.accepted] ++ half x.deadline ++ driveSetBytes x.proposal.lockSet
    | .passed a p => byte a.val :: p.bytes tag ++ [0xFF, 0xFF] ++ half 0xFFFF ++ driveSetBytes p.lockSet

/-! ## Response payloads (R172) -/

/-- The payload of a response: the response data in the order their rule lists them, lists last. What the rules call a count
or a number of things is 2 bytes, and the fields section 11.2 does not list have the widths of log entry 17. For a VOTE
that closes its ballot, no number of electors is given, and FFFFH stands in its place (log entry 29). WITHDRAW_ENTRY sends
the entry's fields as a whole entry record (log entry 32). -/
def Data.bytes (tag : Byte) : Data → List Byte
  | .none => []
  | .opened agent epoch => [byte agent.val, epoch]
  | .closed state withdrawn => [state.code, flagByte withdrawn]
  | .leaseInterval ms => half ms
  | .statusReport state epoch run cycle count slot number =>
    [state.code, epoch, run.code] ++ cycleBytes cycle ++ half count ++ [slot.code] ++ half number.toNat
  | .ownership acted owned => lineSetsBytes acted ++ lineSetsBytes owned
  | .lines sets => lineSetsBytes sets
  | .locked drives number => driveSetBytes drives ++ half number.toNat
  | .lineOf target => [target.lineNumber]
  | .offsetRefused limit => limit.bytes tag
  | .handleOnly handle => [byte handle]
  | .quotaFull bound count => bound.bytes tag ++ half count
  | .staged handle count limit => byte handle :: half count ++ [byte limit]
  | .entryWithdrawn entry left => entry.bytes ++ half left
  | .removed count => half count
  | .stagedPage commit count bound next entries =>
    commit.code :: half count ++ bound.bytes tag ++ [optionByte next] ++ listBytes Entry.bytes entries
  | .activePage agent count applied next entries =>
    byte agent.val :: half count ++ optionCycle tag applied ++ [optionByte next] ++ listBytes Entry.bytes entries
  | .takenCycle cycle => cycleBytes cycle
  | .committed cycle count => cycleBytes cycle ++ half count
  | .entryFault fault => fault.bytes tag
  | .abandoned taken count applied => cycleBytes taken ++ half count ++ optionCycle tag applied
  | .appliedCycle applied => optionCycle tag applied
  | .partnerBlocks partner asserted forcing guard =>
    [byte partner.val, flagByte asserted, forcing.code] ++ half guard
  | .lineReport own partner => own.bytes tag ++ partner.bytes tag
  | .unforced own partner wasForced => own.bytes tag ++ partner.bytes tag ++ [flagByte wasForced]
  | .senseReport line queued =>
    [line.select.code, byte line.prescale, byte line.counter, byte line.filter, flagByte line.armed,
      levelCode line.path.level] ++ half queued
  | .captures left lostSense lostMarker overrun records =>
    half left ++ (List.finRange 8).flatMap (fun i => half (lostSense.read i)) ++ half lostMarker ++ [flagByte overrun]
      ++ listBytes CaptureRecord.bytes records
  | .ballotBusy slot number proposer => slot.code :: half number.toNat ++ [byte proposer.val]
  | .settingFault fault => fault.bytes
  | .offsetConflict agent handle offset active =>
    [byte agent.val, byte handle] ++ half offset ++ [flagByte active]
  | .quotaConflict agent quota inList inPart => [byte agent.val, byte quota] ++ half inList ++ half inPart
  | .reservedLines drives => driveSetBytes drives
  | .proposed number electorate outcome => half number.toNat ++ [smallSetByte electorate, outcome.code]
  | .slotReport slot number => slot.code :: half number.toNat
  | .voted number outcome remaining => half number.toNat ++ [outcome.code] ++ optionHalf remaining
  | .ballotNumber number => half number.toNat
  | .settings record field => (record.full field).bytes tag
  | .ballot b => b.bytes tag
  | .notices left lossPlaced xs => half left ++ [flagByte lossPlaced] ++ listBytes Notice.bytes xs

/-- A response frame: tag, code echo, status, payload length, payload (R166, section 11.1). -/
def Response.bytes (r : Response) : List Byte :=
  let payload := r.data.bytes r.tag
  [r.tag, r.code, r.status.code, byte payload.length] ++ payload

/-- The empty-response marker (section 11.1, R171). -/
def emptyMarker : List Byte := [0x00, 0x00, 0xFF, 0x00]

/-- Filler (section 11.1). -/
def filler : Byte := 0

end Sys2Proof.Machine
end

