-- ==== Sys2Proof/Machine/Flags.lean ====
section
/-! DEFINITION. What is computed from the state and shown outside: the attention lines, the port status byte, the
framing state with its partial frame and fetch position, and the drive pins. -/

namespace Sys2Proof.Machine

/-- The attention line ATNn_N is asserted exactly when the session's notice queue is non-empty (R159). -/
def State.attention (s : State) (a : Agent) : Bool := !(s.session a).notices.isEmpty

/-- Section 11.1. -/
def PortError.code : PortError → Nat
  | .none => 0
  | .truncated => 1
  | .overlength => 2
  | .portFull => 3
  | .fetchEmpty => 4

/-- The port status byte: attention in bit 7, responses waiting in bits 6–4, latched error in bits 3–0 (R163, section
11.1). -/
def statusByte (attention : Bool) (x : Port) : Byte :=
  byte ((if attention then 128 else 0) + 16 * x.responses.length + x.error.code)

/-- The status byte carries the port's latched error (R162). -/
def statusCarries (b : Byte) (e : PortError) : Bool := b.toNat % 16 == e.code

/-- The framing state of R161. -/
def Port.framing (x : Port) : Framing :=
  match x.transaction with
  | .receiving _ => .receiving
  | .sending _ => .sending
  | .idle => .idle
  | .ignored => .idle
  | .status _ => .idle
  | .command => .idle
  | .marker _ => .idle
  | .done => .idle

/-- The partial frame of R161: present only in RECEIVING. -/
def Port.partialFrame (x : Port) : Option (List Byte) :=
  match x.transaction with
  | .receiving frame => some frame
  | .sending _ => none
  | .idle => none
  | .ignored => none
  | .status _ => none
  | .command => none
  | .marker _ => none
  | .done => none

/-- The fetch position of R161: above 0 only in SENDING. -/
def Port.fetchPosition (x : Port) : Nat :=
  match x.transaction with
  | .sending position => position
  | .receiving _ => 0
  | .idle => 0
  | .ignored => 0
  | .status _ => 0
  | .command => 0
  | .marker _ => 0
  | .done => 0

/-- The other electrical level. -/
def oppositeLevel : Level → Level
  | .low => .high
  | .high => .low

/-- The pin of a drive line: the idle level while DEASSERTED, the other level while ASSERTED (R49). -/
def State.pin (s : State) (d : Drive) : Level :=
  if (s.line d).asserted then oppositeLevel (s.settings.idleLevel.read d) else s.settings.idleLevel.read d

/-- The run field as READ_SETTINGS reports it (R151). -/
def State.runField (s : State) : RunField := if s.time.run = .stopped then .stop else .run

end Sys2Proof.Machine
end

