-- ==== Sys2Proof/Machine/Sessions.lean ====
section
/-! DEFINITION. The session table's commands (chapter 2): OPEN, RENEW, CLOSE, and STATUS (R168). Each takes the agent of
the port and the payload of a frame that has been admitted, and answers the state and the reply. -/

namespace Sys2Proof.Machine

/-- A reply of a refusal with no response data. -/
def refuse (status : Status) : Reply := ⟨status, .none⟩

/-- OPEN (R26, R27). -/
def State.takeOpen (s : State) (a : Agent) (payload : List Byte) : State × Reply :=
  let steps := byteAt payload 0
  if steps = 0 then (s, refuse .badArgument)
  else
    let q := s.session a
    let epoch := q.epoch + 1
    let ms := Config.stepMs * steps
    let s1 := s.setSession a { q with state := .openState, epoch := epoch, lease := some ⟨ms, ms⟩, commit := .none }
    (s1.notifyOthers s.time.cycle (.peerJoined a epoch) a, ⟨.ok, .opened a epoch⟩)

/-- The lease interval in force, 0 while there is none. -/
def Session.leaseInterval (q : Session) : Nat := match q.lease with
  | none => 0
  | some l => l.interval

/-- RENEW (R28): without a payload the interval is kept; the renewal itself was made on admission (R23). -/
def State.takeRenew (s : State) (a : Agent) (payload : List Byte) : State × Reply :=
  let q := s.session a
  if payload.isEmpty then (s, ⟨.ok, .leaseInterval q.leaseInterval⟩)
  else
    let steps := byteAt payload 0
    if steps = 0 then (s, refuse .badArgument)
    else
      let ms := Config.stepMs * steps
      (s.setSession a { q with lease := some ⟨ms, ms⟩ }, ⟨.ok, .leaseInterval ms⟩)

def CommitState.isPending : CommitState → Bool
  | .none => false
  | .pending _ => true

/-- CLOSE with mode NOW (R29); the response data follow R38 (log entry 16). -/
def State.takeCloseNow (s : State) (a : Agent) : State × Reply :=
  (s.tearDownNow a .closed .closed, ⟨.ok, .closed .closed (s.session a).commit.isPending⟩)

/-- CLOSE with mode AT_BOUNDARY (R30): CLOSING while the time base runs, teardown while it does not. -/
def State.takeCloseAtBoundary (s : State) (a : Agent) : State × Reply :=
  let q := s.session a
  if s.time.run.isRunning then
    ((s.setSession a { q with state := .closing, commit := .none }).leaveBallot s.time.cycle a,
      ⟨.ok, .closed .closing q.commit.isPending⟩)
  else (s.tearDownNow a .closed .closed, ⟨.ok, .closed .closed q.commit.isPending⟩)

/-- CLOSE by its mode byte (R22): 00H NOW, 01H AT_BOUNDARY, any other BAD_ARGUMENT with no change. -/
def State.takeClose (s : State) (a : Agent) (payload : List Byte) : State × Reply :=
  match byteAt payload 0 with
  | 0 => s.takeCloseNow a
  | 1 => s.takeCloseAtBoundary a
  | _ => (s, refuse .badArgument)

/-- STATUS (R168): it changes no state. -/
def State.takeStatus (s : State) (a : Agent) : State × Reply :=
  let q := s.session a
  (s, ⟨.ok, .statusReport q.state q.epoch s.time.run s.time.cycle s.time.count s.ballot.slot.state s.ballot.number⟩)

end Sys2Proof.Machine
end

