-- ==== Sys2Proof/Machine/Lines.lean ====
section
/-! DEFINITION. The line ownership table's commands (chapter 3): RESERVE and RELEASE. -/

namespace Sys2Proof.Machine

/-- The expanded set of a command: the partner of every requested line of an interlocked pair is added (R40). -/
def expandDrives (st : Settings) (req : Bank Bool 16) : Bank Bool 16 :=
  Bank.build fun d => req.read d || (interlocked st d && req.read (partner d))

def State.expand (s : State) (req : LineSets) : LineSets := ⟨expandDrives s.settings req.drives, req.senses⟩

/-- The lines of a set that satisfy a condition on drive lines and one on sense lines. -/
def LineSets.filter (x : LineSets) (f : Drive → Bool) (g : Sense → Bool) : LineSets :=
  ⟨setFilter x.drives f, setFilter x.senses g⟩

def LineSets.isEmpty (x : LineSets) : Bool := setIsEmpty x.drives && setIsEmpty x.senses

/-- Owned by an agent other than `a`. -/
def ownedByOther (a : Agent) : Option Agent → Bool
  | none => false
  | some b => b != a

/-- The lines of the set that other agents own (check 1 of R41). -/
def State.takenByOthers (s : State) (a : Agent) (x : LineSets) : LineSets :=
  x.filter (fun d => ownedByOther a (s.driveOwner.read d)) fun i => ownedByOther a (s.senseOwner.read i)

/-- The lines of the set that no agent owns: what RESERVE takes (R42). -/
def State.unowned (s : State) (x : LineSets) : LineSets :=
  x.filter (fun d => s.driveOwner.read d == none) fun i => s.senseOwner.read i == none

/-- The lines of `x` become the agent's. A sense line newly taken returns to its reset setup, with its capture path
reloaded; a drive line newly taken is in the unowned condition already (R42, R49). -/
def State.assignLines (s : State) (a : Agent) (x : LineSets) : State :=
  { s with
    driveOwner := Bank.build fun d => if x.drives.read d then some a else s.driveOwner.read d
    senseOwner := Bank.build fun i => if x.senses.read i then some a else s.senseOwner.read i
    sense := Bank.build fun i => if x.senses.read i then (s.senseLine i).fresh else s.senseLine i
    arisen := s.arisen.filter fun e => !((List.finRange 8).any fun i => x.senses.read i && e.isEdgeOf i) }

/-- RESERVE (R40 to R42). -/
def State.takeReserve (s : State) (a : Agent) (payload : List Byte) : State × Reply :=
  let x := s.expand (lineSetsOf payload)
  let others := s.takenByOthers a x
  let lockedLines := setFilter x.drives fun d => s.lockSet.read d
  if !others.isEmpty then (s, ⟨.lineTaken, .lines others⟩)
  else if !setIsEmpty lockedLines then (s, ⟨.ballotLock, .locked lockedLines s.ballot.number⟩)
  else
    let gained := s.unowned x
    let s' := s.assignLines a gained
    (s', ⟨.ok, .ownership gained (s'.owned a)⟩)

/-- An entry of the agent, staged or active, names the target (check 2 of R45). -/
def Session.names (q : Session) (t : Target) : Bool :=
  q.staging.any (fun e => e.target == t) || q.active.any fun e => e.target == t

/-- The lines of `x` are released: drive lines come to the unowned condition, sense lines are disarmed (R46, R47). -/
def State.releaseLines (s : State) (x : LineSets) : State :=
  { s with
    drive := Bank.build fun d => if x.drives.read d then .idle else s.line d
    sense := Bank.build fun i => if x.senses.read i then (s.senseLine i).disarm else s.senseLine i
    driveOwner := Bank.build fun d => if x.drives.read d then none else s.driveOwner.read d
    senseOwner := Bank.build fun i => if x.senses.read i then none else s.senseOwner.read i }

/-- RELEASE (R40, R45 to R47). -/
def State.takeRelease (s : State) (a : Agent) (payload : List Byte) : State × Reply :=
  let x := s.expand (lineSetsOf payload)
  let foreign := x.filter (fun d => !s.ownsDrive a d) fun i => !s.ownsSense a i
  let used := x.filter (fun d => (s.session a).names (.drive d)) fun i => (s.session a).names (.sense i)
  if !foreign.isEmpty then (s, ⟨.lineNotOwned, .lines foreign⟩)
  else if !used.isEmpty then (s, ⟨.lineInUse, .lines used⟩)
  else
    let s' := s.releaseLines x
    (s', ⟨.ok, .ownership x (s'.owned a)⟩)

end Sys2Proof.Machine
end

