-- ==== Sys2Proof/Machine/Plant.lean ====
section
/-! DEFINITION. The commands on lines: forcing (R111, R112), sense setup and arming (R120, R121), and READ_CAPTURES
(R130). -/

namespace Sys2Proof.Machine

/-! ## Forcing -/

/-- The level of FORCE_LINE: 01H ASSERTED, 00H DEASSERTED. -/
def forceLevelOf : Nat → Option Bool
  | 0 => some false
  | 1 => some true
  | _ => none

/-- FORCE_LINE (R111). The report covers the partner whoever owns it (R116; log entry 30). A refusal with INTERLOCK keeps a
deferred assert, one due to lapse too, where the last row of R113 has either level cancel it (R109, R111; log entry 33). -/
def State.takeForce (s : State) (a : Agent) (payload : List Byte) : State × Reply :=
  match indexBelow 16 (byteAt payload 0), forceLevelOf (byteAt payload 1) with
  | some d, some level =>
    let l := s.line d
    if !s.ownsDrive a d then (s, ⟨.lineNotOwned, .lineOf (.drive d)⟩)
    else if level && l.forcing != .forcedAsserted && blocked s.settings s.drive d then
      let x := s.line (partner d)
      (s, ⟨.interlock, .partnerBlocks (partner d) x.asserted x.forcing x.guardRemaining⟩)
    else
      let s' := s.setLine d (l.force s.settings d level)
      (s', ⟨.ok, .lineReport (s'.report d) (s'.report (partner d))⟩)
  | some _, none => (s, refuse .badArgument)
  | none, _ => (s, refuse .badArgument)

/-- UNFORCE_LINE (R112). The report covers the partner whoever owns it (R116; log entry 30). -/
def State.takeUnforce (s : State) (a : Agent) (payload : List Byte) : State × Reply :=
  match indexBelow 16 (byteAt payload 0) with
  | none => (s, refuse .badArgument)
  | some d =>
    if !s.ownsDrive a d then (s, refuse .lineNotOwned)
    else
      let l := s.line d
      let s' := s.setLine d (l.unforce s.settings d)
      (s', ⟨.ok, .unforced (s'.report d) (s'.report (partner d)) (l.forcing != .free)⟩)

/-! ## Sense lines -/

/-- The sense line report of R133. -/
def State.senseReport (s : State) (a : Agent) (i : Sense) : Reply :=
  ⟨.ok, .senseReport (s.senseLine i) (s.session a).captures.length⟩

/-- SET_SENSE (R120). -/
def State.takeSetSense (s : State) (a : Agent) (payload : List Byte) : State × Reply :=
  match senseSetupOf payload with
  | none => (s, refuse .badArgument)
  | some x =>
    if !s.ownsSense a x.line then (s, ⟨.lineNotOwned, .lineOf (.sense x.line)⟩)
    else
      let s' := (s.absorbEdge x.line).setSenseLine x.line ((s.senseLine x.line).setup x.select x.prescale x.filter)
      (s', s'.senseReport a x.line)

/-- ARM_SENSE and DISARM_SENSE: the action `act` on the line the payload names (R121). -/
def State.takeArming (s : State) (a : Agent) (payload : List Byte) (act : Action) : State × Reply :=
  match indexBelow 8 (byteAt payload 0) with
  | none => (s, refuse .badArgument)
  | some i =>
    if !s.ownsSense a i then (s, refuse .lineNotOwned)
    else
      let s' := s.serveSense i act
      (s', s'.senseReport a i)

/-- READ_CAPTURES (R130). -/
def State.takeReadCaptures (s : State) (a : Agent) (payload : List Byte) : State × Reply :=
  let k := byteAt payload 0
  if k = 0 ∨ 6 < k then (s, refuse .badArgument)
  else
    let q := s.session a
    let left := q.captures.drop k
    (s.setSession a { q with captures := left, lostSense := Bank.fill 8 0, lostMarker := 0, overrun := false },
      ⟨.ok, .captures left.length q.lostSense q.lostMarker q.overrun (q.captures.take k)⟩)

/-! ## Notices -/

/-- READ_NOTICES (R156, R157). -/
def State.takeReadNotices (s : State) (a : Agent) (payload : List Byte) : State × Reply :=
  let k := byteAt payload 0
  if k = 0 ∨ 5 < k then (s, refuse .badArgument)
  else
    let q := s.session a
    let read := q.notices.take k
    let left := q.notices.drop k
    if !read.isEmpty && 0 < q.lostNotices then
      let lost : Notice := ⟨.noticesLost q.lostNotices (q.firstLoss.getD s.time.cycle), s.time.cycle⟩
      (s.setSession a { q with notices := left ++ [lost], lostNotices := 0, firstLoss := none },
        ⟨.ok, .notices (left.length + 1) true read⟩)
    else (s.setSession a { q with notices := left }, ⟨.ok, .notices left.length false read⟩)

end Sys2Proof.Machine
end

