-- ==== Sys2Proof/Machine/Timetable.lean ====
section
/-! DEFINITION. The timetable store's commands: staging and reading (chapter 4), COMMIT and ABANDON (chapter 5). -/

namespace Sys2Proof.Machine

/-! ## Bounds (R57, R63) -/

/-- The bound of an agent's staging list: the quota, or a lower proposed quota of a standing ballot (R63). -/
def State.bound (s : State) (a : Agent) : Bound :=
  let quota := s.settings.quota.read a
  match s.ballot.slot.proposal? with
  | none => ⟨quota, none⟩
  | some p => match p.quota.read a with
    | none => ⟨quota, none⟩
    | some k => if k < quota then ⟨k, some s.ballot.number⟩ else ⟨quota, none⟩

/-- The period that refuses an offset: the current one first, then a proposed one (R57). -/
def State.refusingPeriod (s : State) (offset : Nat) : Option PeriodLimit :=
  if s.settings.period ≤ offset then some ⟨s.settings.period, none⟩
  else match s.ballot.slot.proposal? with
    | none => none
    | some p => match p.period with
      | none => none
      | some k => if k ≤ offset then some ⟨k, some s.ballot.number⟩ else none

/-! ## Staging lists (R60 to R62) -/

/-- The lowest handle the list does not hold (R61). A free one exists whenever the list is below its bound. -/
def freeHandle (list : List Entry) : Nat :=
  ((List.range Config.entryCapacity).find? fun h => !list.any fun e => e.handle == h).getD 0

/-- Lists stand in ascending handle order (R60). -/
def insertEntry (e : Entry) : List Entry → List Entry
  | [] => [e]
  | x :: rest => if e.handle < x.handle then e :: x :: rest else x :: insertEntry e rest

/-- The entry under a handle. -/
def entryUnder (list : List Entry) (handle : Nat) : Option Entry := list.find? fun e => e.handle == handle

/-- An entry with a target and an offset, other than the one under `except` (R62). -/
def entryAt (list : List Entry) (t : Target) (offset : Nat) (except : Option Nat) : Option Entry :=
  list.find? fun e => e.target == t && e.offset == offset && some e.handle != except

/-- The agent's session with another staging list. -/
def State.setStaging (s : State) (a : Agent) (list : List Entry) : State :=
  s.setSession a { s.session a with staging := list }

/-! ## Editing commands (R65 to R70) -/

/-- STAGE_ENTRY (R65, R66). -/
def State.takeStage (s : State) (a : Agent) (payload : List Byte) : State × Reply :=
  let q := s.session a
  if q.commit.isPending then (s, refuse .stagingFrozen)
  else match stageOf payload with
    | none => (s, refuse .badArgument)
    | some (t, f) =>
      if !s.ownsTarget a t then (s, ⟨.lineNotOwned, .lineOf t⟩)
      else match s.refusingPeriod f.offset with
        | some limit => (s, ⟨.offsetRange, .offsetRefused limit⟩)
        | none => match entryAt q.staging t f.offset none with
          | some e => (s, ⟨.duplicate, .handleOnly e.handle⟩)
          | none =>
            if (s.bound a).limit ≤ q.staging.length then (s, ⟨.quotaFull, .quotaFull (s.bound a) q.staging.length⟩)
            else
              let h := freeHandle q.staging
              let list := insertEntry ⟨h, t, f.action, f.offset, f.cadence⟩ q.staging
              (s.setStaging a list, ⟨.ok, .staged h list.length (s.bound a).limit⟩)

/-- The list with the fields of the entry under a handle replaced (R68). -/
def amendList (list : List Entry) (handle : Nat) (f : EntryFields) : List Entry :=
  list.map fun e => if e.handle = handle then ⟨e.handle, e.target, f.action, f.offset, f.cadence⟩ else e

/-- AMEND_ENTRY (R67, R68). -/
def State.takeAmend (s : State) (a : Agent) (payload : List Byte) : State × Reply :=
  let q := s.session a
  if q.commit.isPending then (s, refuse .stagingFrozen)
  else match handleOf (byteAt payload 0), entryFieldsOf payload with
    | some h, some f => match entryUnder q.staging h with
      | none => (s, refuse .noSuchHandle)
      | some e =>
        if !f.action.suits e.target then (s, refuse .badArgument)
        else match s.refusingPeriod f.offset with
          | some limit => (s, ⟨.offsetRange, .offsetRefused limit⟩)
          | none => match entryAt q.staging e.target f.offset (some h) with
            | some other => (s, ⟨.duplicate, .handleOnly other.handle⟩)
            | none => (s.setStaging a (amendList q.staging h f), ⟨.ok, .handleOnly h⟩)
    | some _, none => (s, refuse .badArgument)
    | none, _ => (s, refuse .badArgument)

/-- WITHDRAW_ENTRY (R69). -/
def State.takeWithdraw (s : State) (a : Agent) (payload : List Byte) : State × Reply :=
  let q := s.session a
  if q.commit.isPending then (s, refuse .stagingFrozen)
  else match handleOf (byteAt payload 0) with
    | none => (s, refuse .badArgument)
    | some h => match entryUnder q.staging h with
      | none => (s, refuse .noSuchHandle)
      | some e =>
        let list := q.staging.filter fun x => x.handle != h
        (s.setStaging a list, ⟨.ok, .entryWithdrawn e list.length⟩)

/-- CLEAR_STAGING (R70). -/
def State.takeClear (s : State) (a : Agent) : State × Reply :=
  let q := s.session a
  if q.commit.isPending then (s, refuse .stagingFrozen)
  else (s.setStaging a [], ⟨.ok, .removed q.staging.length⟩)

/-! ## Reading commands (R72, R73) -/

/-- The entries at or above a start handle. -/
def entriesFrom (list : List Entry) (start : Nat) : List Entry := list.filter fun e => start ≤ e.handle

/-- One page: up to five entries, lowest handle first. -/
def pageOf (list : List Entry) (start : Nat) : List Entry := (entriesFrom list start).take Config.pageSize

/-- The handle of the next entry beyond the page. -/
def nextHandle (list : List Entry) (start : Nat) : Option Nat :=
  ((entriesFrom list start).drop Config.pageSize).head?.map fun e => e.handle

/-- READ_STAGED (R72). -/
def State.takeReadStaged (s : State) (a : Agent) (payload : List Byte) : State × Reply :=
  let q := s.session a
  match handleOf (byteAt payload 0) with
  | none => (s, refuse .badArgument)
  | some h => (s, ⟨.ok, .stagedPage q.commit q.staging.length (s.bound a) (nextHandle q.staging h) (pageOf q.staging h)⟩)

/-- READ_ACTIVE (R73): any agent's part. -/
def State.takeReadActive (s : State) (payload : List Byte) : State × Reply :=
  match indexBelow 4 (byteAt payload 0), handleOf (byteAt payload 1) with
  | some b, some h =>
    let q := s.session b
    (s, ⟨.ok, .activePage b q.active.length q.applied (nextHandle q.active h) (pageOf q.active h)⟩)
  | some _, none => (s, refuse .badArgument)
  | none, _ => (s, refuse .badArgument)

/-! ## COMMIT (R81 to R86) -/

/-- ASSERT, TOGGLE and PULSE can bring a line to ASSERTED (R56). -/
def Action.assertCapable : Action → Bool
  | .assert => true
  | .toggle => true
  | .pulse _ => true
  | .deassert => false
  | .arm => false
  | .disarm => false
  | .mark _ => false

/-- Another assert-capable entry on the partner line at the same offset (check 2c of R82). -/
def State.conflicting (s : State) (list : List Entry) (e : Entry) : Option Entry :=
  match e.target with
  | .drive d =>
    if e.action.assertCapable && interlocked s.settings d then
      list.find? fun x => x.target == .drive (partner d) && x.offset == e.offset && x.action.assertCapable
    else none
  | .sense _ => none
  | .marker => none

/-- Checks 2a to 2c on one entry (R82). -/
def State.entryFault (s : State) (a : Agent) (list : List Entry) (e : Entry) : Option EntryFault :=
  if !s.ownsTarget a e.target then some (.lineNotOwned e.handle e.target)
  else match s.refusingPeriod e.offset with
    | some limit => some (.offsetRange e.handle limit)
    | none => (s.conflicting list e).map fun x => .interlock e.handle x.handle

/-- Validation: the count, then each entry in ascending handle order; the first failure ends it (R82). -/
def State.validate (s : State) (a : Agent) (list : List Entry) : Option EntryFault :=
  if (s.bound a).limit < list.length then some (.quota (s.bound a) list.length)
  else list.findSome? fun e => s.entryFault a list e

/-- COMMIT (R81, R83 to R86). -/
def State.takeCommit (s : State) (a : Agent) : State × Reply :=
  let q := s.session a
  match q.commit with
  | .pending taken => (s, ⟨.commitPending, .takenCycle taken⟩)
  | .none => match s.validate a q.staging with
    | some fault => (s, ⟨.invalidEntry, .entryFault fault⟩)
    | none =>
      if s.time.run.isRunning then
        (s.setSession a { q with commit := .pending s.time.cycle },
          ⟨.pending, .committed s.time.cycle q.staging.length⟩)
      else (s.exchange s.time.cycle .immediate a, ⟨.applied, .committed s.time.cycle q.staging.length⟩)

/-- ABANDON (R92, R93). -/
def State.takeAbandon (s : State) (a : Agent) : State × Reply :=
  let q := s.session a
  match q.commit with
  | .none => (s, ⟨.nothingPending, .appliedCycle q.applied⟩)
  | .pending taken =>
    (s.setSession a { q with commit := .none }, ⟨.ok, .abandoned taken q.staging.length q.applied⟩)

end Sys2Proof.Machine
end

