-- ==== Sys2Proof/Machine/Proposals.lean ====
section
/-! DEFINITION. The settings and ballot unit's commands (chapter 8): PROPOSE, VOTE, RETRACT, READ_SETTINGS and
READ_BALLOT. -/

namespace Sys2Proof.Machine

/-! ## The checks of PROPOSE (R136, R138, R139) -/

/-- The first rule of R136 that the record breaks. -/
def State.settingFault (s : State) (r : List Byte) : Option SettingFault :=
  if recordEmpty r then some .empty
  else match rangeFault r with
    | some f => some (.range f)
    | none =>
      let st := s.settings.updated (proposalOf r)
      if !st.sourced then some .modeSource
      else if 128 < st.quotaSum then some .quotaSum
      else none

/-- An entry beyond a period: who holds it, the entry, and whether it is active. -/
structure OffsetConflict where
  agent : Agent
  entry : Entry
  active : Bool
  deriving DecidableEq, Repr

/-- The first entry of an agent at or beyond a period: its staging list first, then its active part (R139). -/
def State.offsetConflictOf (s : State) (period : Nat) (a : Agent) : Option OffsetConflict :=
  match (s.session a).staging.find? fun e => period ≤ e.offset with
  | some e => some ⟨a, e, false⟩
  | none => ((s.session a).active.find? fun e => period ≤ e.offset).map fun e => ⟨a, e, true⟩

/-- Check 4 of R138. -/
def State.offsetConflict (s : State) (p : Proposal) : Option OffsetConflict :=
  match p.period with
  | none => none
  | some k => (List.finRange 4).findSome? fun a => s.offsetConflictOf k a

/-- A quota is proposed for the agent that its staged or active count exceeds (R139). -/
def State.exceedsQuota (s : State) (p : Proposal) (a : Agent) : Bool :=
  match p.quota.read a with
  | none => false
  | some k => k < (s.session a).staging.length || k < (s.session a).active.length

/-- Check 5 of R138: the first agent that fails it. -/
def State.quotaConflict (s : State) (p : Proposal) : Option Agent :=
  (List.finRange 4).find? fun a => s.exceedsQuota p a

/-- The owned lines of the lock set the proposal would have (check 6 of R138). -/
def State.reservedLines (s : State) (p : Proposal) : Bank Bool 16 :=
  setFilter p.lockSet fun d => (s.driveOwner.read d).isSome

/-! ## Accepting a proposal (R140) -/

/-- The agents other than the proposer whose sessions are OPEN. -/
def State.electorateFor (s : State) (a : Agent) : Bank Bool 4 :=
  Bank.build fun b => b != a && (s.session b).state == .openState

/-- The ballot an accepted PROPOSE opens. -/
def State.newBallot (s : State) (a : Agent) (p : Proposal) (steps : Nat) : OpenBallot :=
  ⟨a, p, s.electorateFor a, emptySet 4, Config.stepMs * steps⟩

/-- The slot after an accepted PROPOSE, before anything passes. -/
def State.openSlot (s : State) (b : OpenBallot) : State :=
  { s with ballot := { s.ballot with number := s.ballot.number + 1, slot := .openSlot b } }

/-- BALLOT_OPENED to each elector. -/
def State.notifyOpened (s : State) (b : OpenBallot) : State :=
  s.notifyEach s.time.cycle (.ballotOpened s.ballot.number b.proposer b.deadline) fun a => b.electorate.read a

/-- The ballot opens, or passes in the same event if no elector is to be waited for (R140). -/
def State.acceptProposal (s : State) (b : OpenBallot) : State :=
  let s' := s.openSlot b
  if setIsEmpty b.electorate then (s'.passBallot s.time.cycle b).applyIfIdle else s'.notifyOpened b

/-- What the slot shows of a ballot that was accepted or voted on: OPEN, PASSED, or EMPTY after application. -/
def Slot.outcome : Slot → Outcome
  | .openSlot _ => .openBallot
  | .passed _ _ => .passed
  | .empty => .applied

/-- The proposer the slot holds. -/
def Slot.proposer? : Slot → Option Agent
  | .empty => none
  | .openSlot b => some b.proposer
  | .passed a _ => some a

/-- The checks of PROPOSE from check 2 on, over an EMPTY slot, and its acceptance (R138, R140). -/
def State.proposeOnEmpty (s : State) (a : Agent) (payload : List Byte) : State × Reply :=
  let steps := byteAt payload 0
  let r := payload.drop 1
  if steps = 0 ∨ unusedBitSet r then (s, refuse .badArgument)
  else match s.settingFault r with
    | some f => (s, ⟨.invalidSetting, .settingFault f⟩)
    | none =>
      let p := proposalOf r
      match s.offsetConflict p with
      | some c => (s, ⟨.offsetConflict, .offsetConflict c.agent c.entry.handle c.entry.offset c.active⟩)
      | none => match s.quotaConflict p with
        | some b => (s, ⟨.quotaConflict, .quotaConflict b ((p.quota.read b).getD 0) (s.session b).staging.length
            (s.session b).active.length⟩)
        | none =>
          if !setIsEmpty (s.reservedLines p) then (s, ⟨.lineReserved, .reservedLines (s.reservedLines p)⟩)
          else
            let b := s.newBallot a p steps
            let s' := s.acceptProposal b
            (s', ⟨.ok, .proposed s'.ballot.number b.electorate s'.ballot.slot.outcome⟩)

/-- PROPOSE (R138): check 1 is on the slot. -/
def State.takePropose (s : State) (a : Agent) (payload : List Byte) : State × Reply :=
  match s.ballot.slot.proposer? with
  | some b => (s, ⟨.ballotBusy, .ballotBusy s.ballot.slot.state s.ballot.number b⟩)
  | none => s.proposeOnEmpty a payload

/-! ## Votes and retraction (R142, R143) -/

/-- Electors still to accept. -/
def OpenBallot.waiting (b : OpenBallot) : Nat := setSize (setFilter b.electorate fun a => !b.accepted.read a)

/-- How many electors the slot still waits for, while it is OPEN. -/
def Slot.waiting : Slot → Option Nat
  | .openSlot b => some b.waiting
  | .empty => none
  | .passed _ _ => none

/-- An elector's ACCEPT: it joins the accepted set, and the ballot passes if the set is complete (R142). -/
def State.acceptVote (s : State) (a : Agent) (b : OpenBallot) : State :=
  (s.holdOrPass s.time.cycle { b with accepted := b.accepted.write a true }).applyIfIdle

/-- VOTE on the open ballot `b`, by the choice byte: 01H ACCEPT, 02H REJECT. -/
def State.voteOn (s : State) (a : Agent) (b : OpenBallot) (accept : Bool) : State × Reply :=
  if !b.electorate.read a then (s, refuse .notElector)
  else if b.accepted.read a then (s, refuse .alreadyVoted)
  else if accept then
    let s' := s.acceptVote a b
    (s', ⟨.ok, .voted s.ballot.number s'.ballot.slot.outcome s'.ballot.slot.waiting⟩)
  else (s.failBallot s.time.cycle b (.rejected a), ⟨.ok, .voted s.ballot.number .failed none⟩)

/-- The open ballot that a ballot number names (check 2 of R142, R143). -/
def State.openNumbered (s : State) (number : Nat) : Option OpenBallot :=
  match s.ballot.slot with
  | .openSlot b => if s.ballot.number.toNat = number then some b else none
  | .empty => none
  | .passed _ _ => none

/-- VOTE (R142). -/
def State.takeVote (s : State) (a : Agent) (payload : List Byte) : State × Reply :=
  let choice := byteAt payload 2
  if choice ≠ 1 ∧ choice ≠ 2 then (s, refuse .badArgument)
  else match s.openNumbered (halfAt payload 0) with
    | none => (s, ⟨.staleBallot, .slotReport s.ballot.slot.state s.ballot.number⟩)
    | some b => s.voteOn a b (choice == 1)

/-- RETRACT (R143). -/
def State.takeRetract (s : State) (a : Agent) (payload : List Byte) : State × Reply :=
  match s.openNumbered (halfAt payload 0) with
  | none => (s, refuse .staleBallot)
  | some b =>
    if b.proposer ≠ a then (s, refuse .notProposer)
    else (s.failBallot s.time.cycle b .withdrawn, ⟨.ok, .ballotNumber s.ballot.number⟩)

/-! ## Reading (R151) -/

/-- READ_SETTINGS. -/
def State.takeReadSettings (s : State) : State × Reply := (s, ⟨.ok, .settings s.settings s.runField⟩)

/-- READ_BALLOT. -/
def State.takeReadBallot (s : State) : State × Reply := (s, ⟨.ok, .ballot s.ballot⟩)

end Sys2Proof.Machine
end

