-- ==== Sys2Proof/Machine/Frames.lean ====
section
/-! DEFINITION. A complete command frame: the queue check at the port (R165), the lease renewal (R23), the three checks
of R166 with the admission of R22, the owning block, and the response; how SELn_N is sampled before it; and the meaning of
every command-frame row. -/

namespace Sys2Proof.Machine

/-! ## Command codes (section 11.2) -/

/-- The 26 commands, in the order of their codes. -/
inductive Command where
  | openSession
  | close
  | renew
  | status
  | reserve
  | release
  | stageEntry
  | amendEntry
  | withdrawEntry
  | clearStaging
  | readStaged
  | readActive
  | commit
  | abandon
  | forceLine
  | unforceLine
  | setSense
  | armSense
  | disarmSense
  | readCaptures
  | propose
  | vote
  | retract
  | readSettings
  | readBallot
  | readNotices
  deriving DecidableEq, Repr

/-- Command codes run from 01H in the order of section 11.2. -/
def Command.code : Command → Byte
  | .openSession => 0x01
  | .close => 0x02
  | .renew => 0x03
  | .status => 0x04
  | .reserve => 0x05
  | .release => 0x06
  | .stageEntry => 0x07
  | .amendEntry => 0x08
  | .withdrawEntry => 0x09
  | .clearStaging => 0x0A
  | .readStaged => 0x0B
  | .readActive => 0x0C
  | .commit => 0x0D
  | .abandon => 0x0E
  | .forceLine => 0x0F
  | .unforceLine => 0x10
  | .setSense => 0x11
  | .armSense => 0x12
  | .disarmSense => 0x13
  | .readCaptures => 0x14
  | .propose => 0x15
  | .vote => 0x16
  | .retract => 0x17
  | .readSettings => 0x18
  | .readBallot => 0x19
  | .readNotices => 0x1A

/-- The command a code names, if it names one (check 1 of R166). -/
def Command.ofCode (b : Byte) : Option Command :=
  match b.toNat with
  | 0x01 => some .openSession
  | 0x02 => some .close
  | 0x03 => some .renew
  | 0x04 => some .status
  | 0x05 => some .reserve
  | 0x06 => some .release
  | 0x07 => some .stageEntry
  | 0x08 => some .amendEntry
  | 0x09 => some .withdrawEntry
  | 0x0A => some .clearStaging
  | 0x0B => some .readStaged
  | 0x0C => some .readActive
  | 0x0D => some .commit
  | 0x0E => some .abandon
  | 0x0F => some .forceLine
  | 0x10 => some .unforceLine
  | 0x11 => some .setSense
  | 0x12 => some .armSense
  | 0x13 => some .disarmSense
  | 0x14 => some .readCaptures
  | 0x15 => some .propose
  | 0x16 => some .vote
  | 0x17 => some .retract
  | 0x18 => some .readSettings
  | 0x19 => some .readBallot
  | 0x1A => some .readNotices
  | _ => none

/-- The payload lengths that section 11.3 permits (check 2 of R166, R172). -/
def Command.lengths : Command → List Nat
  | .openSession => [1]
  | .close => [1]
  | .renew => [0, 1]
  | .status => [0]
  | .reserve => [3]
  | .release => [3]
  | .stageEntry => [9]
  | .amendEntry => [9]
  | .withdrawEntry => [1]
  | .clearStaging => [0]
  | .readStaged => [1]
  | .readActive => [2]
  | .commit => [0]
  | .abandon => [0]
  | .forceLine => [2]
  | .unforceLine => [1]
  | .setSense => [4]
  | .armSense => [1]
  | .disarmSense => [1]
  | .readCaptures => [1]
  | .propose => [39]
  | .vote => [3]
  | .retract => [2]
  | .readSettings => [0]
  | .readBallot => [0]
  | .readNotices => [1]

/-! ## Admission (R22) -/

/-- The kinds of row in the table of R22. -/
inductive AdmissionRow where
  /-- OPEN. -/
  | opening
  /-- STATUS. -/
  | always
  /-- RENEW, CLOSE with mode NOW, and the reads that CLOSING still admits. -/
  | whilePresent
  /-- CLOSE with mode AT_BOUNDARY and every other command. -/
  | whileOpen
  deriving DecidableEq, Repr

/-- The row of R22 for a command with its payload. Only the mode byte of a CLOSE matters. -/
def Command.row (payload : List Byte) : Command → AdmissionRow
  | .openSession => .opening
  | .status => .always
  | .renew => .whilePresent
  | .close => if byteAt payload 0 = 1 then .whileOpen else .whilePresent
  | .readNotices => .whilePresent
  | .readCaptures => .whilePresent
  | .readActive => .whilePresent
  | .readStaged => .whilePresent
  | .readSettings => .whilePresent
  | .reserve => .whileOpen
  | .release => .whileOpen
  | .stageEntry => .whileOpen
  | .amendEntry => .whileOpen
  | .withdrawEntry => .whileOpen
  | .clearStaging => .whileOpen
  | .commit => .whileOpen
  | .abandon => .whileOpen
  | .forceLine => .whileOpen
  | .unforceLine => .whileOpen
  | .setSense => .whileOpen
  | .armSense => .whileOpen
  | .disarmSense => .whileOpen
  | .propose => .whileOpen
  | .vote => .whileOpen
  | .retract => .whileOpen
  | .readBallot => .whileOpen

/-- What refuses a command in a session state; `none` means that it is taken (R22). -/
def AdmissionRow.refusal : AdmissionRow → SessionState → Option Status
  | .opening, .closed => none
  | .opening, .openState => some .alreadyOpen
  | .opening, .closing => some .alreadyOpen
  | .opening, .expired => none
  | .always, _ => none
  | .whilePresent, .closed => some .noSession
  | .whilePresent, .openState => none
  | .whilePresent, .closing => none
  | .whilePresent, .expired => some .sessionExpired
  | .whileOpen, .closed => some .noSession
  | .whileOpen, .openState => none
  | .whileOpen, .closing => some .sessionClosing
  | .whileOpen, .expired => some .sessionExpired

/-! ## The owning blocks (section 10.7) -/

/-- The owning block takes an admitted command of agent `a`. -/
def State.take (s : State) (a : Agent) (payload : List Byte) : Command → State × Reply
  | .openSession => s.takeOpen a payload
  | .close => s.takeClose a payload
  | .renew => s.takeRenew a payload
  | .status => s.takeStatus a
  | .reserve => s.takeReserve a payload
  | .release => s.takeRelease a payload
  | .stageEntry => s.takeStage a payload
  | .amendEntry => s.takeAmend a payload
  | .withdrawEntry => s.takeWithdraw a payload
  | .clearStaging => s.takeClear a
  | .readStaged => s.takeReadStaged a payload
  | .readActive => s.takeReadActive payload
  | .commit => s.takeCommit a
  | .abandon => s.takeAbandon a
  | .forceLine => s.takeForce a payload
  | .unforceLine => s.takeUnforce a payload
  | .setSense => s.takeSetSense a payload
  | .armSense => s.takeArming a payload .arm
  | .disarmSense => s.takeArming a payload .disarm
  | .readCaptures => s.takeReadCaptures a payload
  | .propose => s.takePropose a payload
  | .vote => s.takeVote a payload
  | .retract => s.takeRetract a payload
  | .readSettings => s.takeReadSettings
  | .readBallot => s.takeReadBallot
  | .readNotices => s.takeReadNotices a payload

/-- The first of the checks of R166 that a frame fails, on a session state. -/
def frameRefusal (code : Byte) (payload : List Byte) (session : SessionState) : Option Status :=
  match Command.ofCode code with
  | none => some .unknownCommand
  | some c => if c.lengths.contains payload.length then (c.row payload).refusal session else some .badFrame

/-- The state and the reply of a frame handed to the session table, after the lease renewal (R166). -/
def State.answer (s : State) (a : Agent) (code : Byte) (payload : List Byte) : State × Reply :=
  match frameRefusal code payload (s.session a).state with
  | some status => (s, refuse status)
  | none => match Command.ofCode code with
    | some c => s.take a payload c
    | none => (s, refuse .unknownCommand)

/-! ## The port (R162, R164, R165) -/

/-- A port-level error is latched (R162). -/
def State.latch (s : State) (p : Agent) (e : PortError) : State := s.setPort p { s.port p with error := e }

/-- A response joins the queue at the newest end (R165). -/
def State.respond (s : State) (p : Agent) (r : Response) : State :=
  s.setPort p { s.port p with responses := (s.port p).responses ++ [r] }

/-- The transaction of a frame that is complete or discarded: its rest is ignored (R164). -/
def Transaction.settled : Transaction → Transaction
  | .idle => .idle
  | .ignored => .ignored
  | .status _ => .done
  | .command => .done
  | .receiving _ => .done
  | .sending _ => .done
  | .marker _ => .done
  | .done => .done

/-- The port's transaction stands complete (R164). -/
def State.settle (s : State) (p : Agent) : State :=
  s.setPort p { s.port p with transaction := (s.port p).transaction.settled }

/-- The lease renewal of a frame that reaches the session table (R23). -/
def State.renewLease (s : State) (a : Agent) : State := s.setSession a (s.session a).renew

/-- A frame handed to the session table: renewed, admitted, taken and answered as one event (R23, R165, R166). -/
def State.executeFrame (s : State) (p : Agent) (code tag : Byte) (payload : List Byte) : State :=
  let r := (s.renewLease p).answer p code payload
  r.1.respond p ⟨tag, code, r.2.status, r.2.data⟩

/-- A frame with its whole payload on port `p`. One above 60 bytes is OVERLENGTH (R164); one that meets four responses is
PORT_FULL (R165). -/
def State.deliverFrame (s : State) (p : Agent) (code tag : Byte) (payload : List Byte) : State :=
  let s' := s.settle p
  if Config.payloadLimit < payload.length then s'.latch p .overlength
  else if Config.responseCapacity ≤ (s.port p).responses.length then s'.latch p .portFull
  else s'.executeFrame p code tag payload

/-- REFCLK runs and the part is out of device reset (R19, R170). -/
def State.live (s : State) : Bool := s.refclk && !s.resetLow

/-! ## SELn_N sampled (R19, R163) -/

/-- SELn_N is seen low. Where no transaction stands, one begins, and the port status byte is formed (R163). One that stands
goes on: SELn_N rose while REFCLK was stopped, and that was not seen (R19). -/
def Port.start (attention : Bool) (x : Port) : Port :=
  if x.transaction = .idle then
    { x with selected := true, transaction := .status (statusByte attention x), shiftedOut := none }
  else { x with selected := true }

/-- SELn_N rises: a partial frame is discarded as TRUNCATED, an unfinished fetch leaves the queue as it is (R163, R164,
R167). -/
def Port.finish (x : Port) : Port :=
  { x with
    selected := false
    transaction := .idle
    error := match x.transaction with
      | .receiving _ => .truncated
      | .sending _ => x.error
      | .idle => x.error
      | .ignored => x.error
      | .status _ => x.error
      | .command => x.error
      | .marker _ => x.error
      | .done => x.error
    shiftedOut := none }

/-- A port's SELn_N is sampled: a change made while REFCLK was stopped is seen now (R19; log entry 13). -/
def State.samplePort (s : State) (p : Agent) : State :=
  let x := s.port p
  if x.selected then s.setPort p (x.start (s.attention p))
  else if x.transaction = .idle then s
  else s.setPort p x.finish

/-! ## A frame's row -/

/-- The transaction can still carry a command frame: it carries at most one, and none once its action is another one or is
complete (R163, R164, R170). Where no transaction stands, the row stands for a whole one (log entry 4). -/
def Transaction.awaitsFrame : Transaction → Bool
  | .idle => true
  | .status _ => true
  | .command => true
  | .receiving _ => true
  | .ignored => false
  | .sending _ => false
  | .marker _ => false
  | .done => false

/-- What a frame's row does once SELn_N has been sampled: the frame completes where the transaction can still carry it, and
elsewhere its bytes are ignored (R163; log entry 4). -/
def State.offerFrame (s : State) (p : Agent) (code tag : Byte) (payload : List Byte) : State :=
  if (s.port p).transaction.awaitsFrame then s.deliverFrame p code tag payload else s

/-- A command-frame row. SELn_N is sampled before its bits are, so a change made while REFCLK was stopped is seen first (R19;
log entries 13 and 26). -/
def State.takeFrame (s : State) (p : Agent) (code tag : Byte) (payload : List Byte) : State :=
  if s.live then (s.samplePort p).offerFrame p code tag payload else s

/-! ## The meanings of the command-frame rows -/

/-- OPEN (R26, R27). -/
def execOpenSession (p : Agent) (tag : Byte) (payload : List Byte) (s : State) : Host.Outcome State Fault Refusal :=
  .next (s.takeFrame p Command.openSession.code tag payload)

/-- CLOSE with mode NOW, or with a mode that is neither (R22, R29). -/
def execCloseNow (p : Agent) (tag : Byte) (payload : List Byte) (s : State) : Host.Outcome State Fault Refusal :=
  .next (s.takeFrame p Command.close.code tag payload)

/-- CLOSE with mode AT_BOUNDARY (R30). -/
def execCloseAtBoundary (p : Agent) (tag : Byte) (payload : List Byte) (s : State) :
    Host.Outcome State Fault Refusal :=
  .next (s.takeFrame p Command.close.code tag payload)

/-- RENEW (R28). -/
def execRenew (p : Agent) (tag : Byte) (payload : List Byte) (s : State) : Host.Outcome State Fault Refusal :=
  .next (s.takeFrame p Command.renew.code tag payload)

/-- STATUS (R168). -/
def execStatus (p : Agent) (tag : Byte) (payload : List Byte) (s : State) : Host.Outcome State Fault Refusal :=
  .next (s.takeFrame p Command.status.code tag payload)

/-- RESERVE (R41, R42). -/
def execReserve (p : Agent) (tag : Byte) (payload : List Byte) (s : State) : Host.Outcome State Fault Refusal :=
  .next (s.takeFrame p Command.reserve.code tag payload)

/-- RELEASE (R45). -/
def execRelease (p : Agent) (tag : Byte) (payload : List Byte) (s : State) : Host.Outcome State Fault Refusal :=
  .next (s.takeFrame p Command.release.code tag payload)

/-- STAGE_ENTRY (R65, R66). -/
def execStageEntry (p : Agent) (tag : Byte) (payload : List Byte) (s : State) : Host.Outcome State Fault Refusal :=
  .next (s.takeFrame p Command.stageEntry.code tag payload)

/-- AMEND_ENTRY (R67, R68). -/
def execAmendEntry (p : Agent) (tag : Byte) (payload : List Byte) (s : State) : Host.Outcome State Fault Refusal :=
  .next (s.takeFrame p Command.amendEntry.code tag payload)

/-- WITHDRAW_ENTRY (R69). -/
def execWithdrawEntry (p : Agent) (tag : Byte) (payload : List Byte) (s : State) : Host.Outcome State Fault Refusal :=
  .next (s.takeFrame p Command.withdrawEntry.code tag payload)

/-- CLEAR_STAGING (R70). -/
def execClearStaging (p : Agent) (tag : Byte) (payload : List Byte) (s : State) : Host.Outcome State Fault Refusal :=
  .next (s.takeFrame p Command.clearStaging.code tag payload)

/-- READ_STAGED (R72). -/
def execReadStaged (p : Agent) (tag : Byte) (payload : List Byte) (s : State) : Host.Outcome State Fault Refusal :=
  .next (s.takeFrame p Command.readStaged.code tag payload)

/-- READ_ACTIVE (R73). -/
def execReadActive (p : Agent) (tag : Byte) (payload : List Byte) (s : State) : Host.Outcome State Fault Refusal :=
  .next (s.takeFrame p Command.readActive.code tag payload)

/-- COMMIT (R81 to R86). -/
def execCommit (p : Agent) (tag : Byte) (payload : List Byte) (s : State) : Host.Outcome State Fault Refusal :=
  .next (s.takeFrame p Command.commit.code tag payload)

/-- ABANDON (R92). -/
def execAbandon (p : Agent) (tag : Byte) (payload : List Byte) (s : State) : Host.Outcome State Fault Refusal :=
  .next (s.takeFrame p Command.abandon.code tag payload)

/-- FORCE_LINE (R111). -/
def execForceLine (p : Agent) (tag : Byte) (payload : List Byte) (s : State) : Host.Outcome State Fault Refusal :=
  .next (s.takeFrame p Command.forceLine.code tag payload)

/-- UNFORCE_LINE (R112). -/
def execUnforceLine (p : Agent) (tag : Byte) (payload : List Byte) (s : State) : Host.Outcome State Fault Refusal :=
  .next (s.takeFrame p Command.unforceLine.code tag payload)

/-- SET_SENSE (R120). -/
def execSetSense (p : Agent) (tag : Byte) (payload : List Byte) (s : State) : Host.Outcome State Fault Refusal :=
  .next (s.takeFrame p Command.setSense.code tag payload)

/-- ARM_SENSE (R121). -/
def execArmSense (p : Agent) (tag : Byte) (payload : List Byte) (s : State) : Host.Outcome State Fault Refusal :=
  .next (s.takeFrame p Command.armSense.code tag payload)

/-- DISARM_SENSE (R121). -/
def execDisarmSense (p : Agent) (tag : Byte) (payload : List Byte) (s : State) : Host.Outcome State Fault Refusal :=
  .next (s.takeFrame p Command.disarmSense.code tag payload)

/-- READ_CAPTURES (R130). -/
def execReadCaptures (p : Agent) (tag : Byte) (payload : List Byte) (s : State) : Host.Outcome State Fault Refusal :=
  .next (s.takeFrame p Command.readCaptures.code tag payload)

/-- PROPOSE (R138 to R140). -/
def execPropose (p : Agent) (tag : Byte) (payload : List Byte) (s : State) : Host.Outcome State Fault Refusal :=
  .next (s.takeFrame p Command.propose.code tag payload)

/-- VOTE (R142). -/
def execVote (p : Agent) (tag : Byte) (payload : List Byte) (s : State) : Host.Outcome State Fault Refusal :=
  .next (s.takeFrame p Command.vote.code tag payload)

/-- RETRACT (R143). -/
def execRetract (p : Agent) (tag : Byte) (payload : List Byte) (s : State) : Host.Outcome State Fault Refusal :=
  .next (s.takeFrame p Command.retract.code tag payload)

/-- READ_SETTINGS (R151). -/
def execReadSettings (p : Agent) (tag : Byte) (payload : List Byte) (s : State) : Host.Outcome State Fault Refusal :=
  .next (s.takeFrame p Command.readSettings.code tag payload)

/-- READ_BALLOT (R151). -/
def execReadBallot (p : Agent) (tag : Byte) (payload : List Byte) (s : State) : Host.Outcome State Fault Refusal :=
  .next (s.takeFrame p Command.readBallot.code tag payload)

/-- READ_NOTICES (R156, R157). -/
def execReadNotices (p : Agent) (tag : Byte) (payload : List Byte) (s : State) : Host.Outcome State Fault Refusal :=
  .next (s.takeFrame p Command.readNotices.code tag payload)

/-- A frame whose code is not a command (R166, R23). -/
def execUnknownCommand (p : Agent) (code tag : Byte) (payload : List Byte) (s : State) :
    Host.Outcome State Fault Refusal :=
  .next (s.takeFrame p code tag payload)

end Sys2Proof.Machine
end

