-- ==== Sys2Proof/Machine/Ports.lean ====
section
/-! DEFINITION. The agent port layer (chapter 10): transactions byte by byte, port reset, device reset, and REFCLK
stopping and resuming. -/

namespace Sys2Proof.Machine

/-! ## One port -/

/-- The status byte `b` has been shifted out whole: an error it carries is cleared (R162). -/
def Port.statusOut (b : Byte) (x : Port) : Port :=
  { x with
    transaction := .command
    error := if statusCarries b x.error then .none else x.error
    shiftedOut := some b }

/-- The port with its status byte out, ready for the transaction byte; `none` where the transaction byte has been taken
already or the transaction is ignored. From idle, the transaction begins here (log entry 21). -/
def Port.toCommand (attention : Bool) (x : Port) : Option Port :=
  match x.transaction with
  | .idle => some ({ x with selected := true }.statusOut (statusByte attention x))
  | .status b => some (x.statusOut b)
  | .command => some x
  | .ignored => none
  | .receiving _ => none
  | .sending _ => none
  | .marker _ => none
  | .done => none

/-- A transaction byte other than PORT_RESET is taken, while filler goes out (R163, R164, R167). -/
def Port.takeByte (v : Byte) (x : Port) : Port :=
  let x' := { x with shiftedOut := some filler }
  if v = 0xA5 then { x' with transaction := .receiving [] }
  else if v = 0x5A then
    if x.responses.isEmpty then { x' with transaction := .marker 0, error := .fetchEmpty }
    else { x' with transaction := .sending 0 }
  else { x' with transaction := .done }

/-- The port layer's part of a port reset (R169). -/
def Port.clear (x : Port) : Port :=
  { x with transaction := .done, responses := [], error := .none, shiftedOut := some filler }

/-- The next byte of the head response is shifted out; the last one removes the response (R167). -/
def Port.sendByte (position : Nat) (x : Port) : Port :=
  match x.responses with
  | [] => { x with transaction := .done, shiftedOut := some filler }
  | r :: rest =>
    let out := { x with shiftedOut := some (r.bytes.getD position filler) }
    if position + 1 < r.bytes.length then { out with transaction := .sending (position + 1) }
    else { out with transaction := .done, responses := rest }

/-- The next byte of the empty-response marker is shifted out (R167, R171). -/
def Port.markByte (position : Nat) (x : Port) : Port :=
  { x with
    shiftedOut := some (emptyMarker.getD position filler)
    transaction := if position + 1 < emptyMarker.length then .marker (position + 1) else .done }

/-! ## Transaction bytes -/

/-- Port reset (R36, R169). -/
def State.portReset (s : State) (p : Agent) : State := (s.setPort p (s.port p).clear).resetSession p

/-- The transaction byte is taken by a port whose status byte is out (R163). -/
def State.useByte (s : State) (p : Agent) (v : Byte) : State :=
  if v = 0xC3 then s.portReset p else s.setPort p ((s.port p).takeByte v)

/-- The port comes to its transaction byte and takes it. A port past its transaction byte is not affected (R163; log entry
21). -/
def State.chooseAction (s : State) (p : Agent) (v : Byte) : State :=
  match (s.port p).toCommand (s.attention p) with
  | some x => (s.setPort p x).useByte p v
  | none => s

/-- A row that is a transaction byte. Its bits are sampled after SELn_N is (R19). -/
def State.transactionByte (s : State) (p : Agent) (v : Byte) : State :=
  if s.live then (s.samplePort p).chooseAction p v else s

/-! ## Bytes shifted (R164, R167) -/

/-- A byte shifted in while RECEIVING joins the partial frame. The third byte is examined, and the last one completes the
frame, which is handed on in the same event (R164, R165). -/
def State.receiveByte (s : State) (p : Agent) (frame : List Byte) (v : Byte) : State :=
  let frame' := frame ++ [v]
  let s' := s.setPort p { s.port p with transaction := .receiving frame', shiftedOut := some filler }
  if frame'.length < 3 then s'
  else if Config.payloadLimit < byteAt frame' 2 then (s'.settle p).latch p .overlength
  else if frame'.length < 3 + byteAt frame' 2 then s'
  else s'.deliverFrame p (frame'.getD 0 0) (frame'.getD 1 0) (frame'.drop 3)

/-- What a byte does by where the transaction stands (R163, R164, R167). Where SELn_N was low already when RESET_N rose, the
transaction is ignored and no byte is shifted out (R170; log entry 31). -/
def State.moveByte (s : State) (p : Agent) (v : Byte) : State :=
  match (s.port p).transaction with
  | .idle => s
  | .ignored => s
  | .status b => s.setPort p ((s.port p).statusOut b)
  | .command => s.useByte p v
  | .receiving frame => s.receiveByte p frame v
  | .sending position => s.setPort p ((s.port p).sendByte position)
  | .marker position => s.setPort p ((s.port p).markByte position)
  | .done => s.setPort p { s.port p with shiftedOut := some filler }

/-- One byte of a transaction is shifted whole, out and in. Its bits are sampled after SELn_N is (R19). -/
def State.shiftByte (s : State) (p : Agent) (v : Byte) : State :=
  if s.live then (s.samplePort p).moveByte p v else s

/-! ## SELn_N (R163, R19, R170) -/

/-- SELn_N falls. While the part samples no port, only the pin changes (R19, R170). -/
def State.selectPort (s : State) (p : Agent) : State :=
  if s.live then s.setPort p ((s.port p).start (s.attention p))
  else s.setPort p { s.port p with selected := true }

/-- SELn_N rises. While the part samples no port, only the pin changes (R19, R170). -/
def State.deselectPort (s : State) (p : Agent) : State :=
  if s.live then s.setPort p (s.port p).finish
  else s.setPort p { s.port p with selected := false }

/-- Every port is sampled in a REFCLK period (R19). -/
def State.samplePorts (s : State) : State := (List.finRange 4).foldl State.samplePort s

/-! ## Device reset (R170) -/

/-- RESET_N goes low, or power-up: every block takes its reset values. What is not the part's own stays: REFCLK, the
levels at SELn_N, and the model's own fields (log entry 14). -/
def State.deviceReset (s : State) : State :=
  { State.reset with
    ports := Bank.build fun p => { Port.reset with selected := (s.port p).selected }
    resetLow := true
    refclk := s.refclk
    freeCount := s.freeCount
    pending := s.pending }

/-- RESET_N rises: a SELn_N that is low already is ignored until it has risen (R170). -/
def State.releaseReset (s : State) : State :=
  if s.resetLow then
    { s with
      resetLow := false
      ports := Bank.build fun p =>
        { s.port p with transaction := if (s.port p).selected then .ignored else .idle } }
  else s

/-! ## The meanings of the port, reset and REFCLK rows -/

/-- TRANSACTION_START (R163). -/
def execTransactionStart (p : Agent) (s : State) : Host.Outcome State Fault Refusal := .next (s.selectPort p)

/-- SEND (R163, R164). -/
def execSend (p : Agent) (s : State) : Host.Outcome State Fault Refusal := .next (s.transactionByte p 0xA5)

/-- FETCH (R163, R167). -/
def execFetch (p : Agent) (s : State) : Host.Outcome State Fault Refusal := .next (s.transactionByte p 0x5A)

/-- PEEK, or any unassigned value (R163, R171). -/
def execPeek (p : Agent) (value : Byte) (s : State) : Host.Outcome State Fault Refusal :=
  .next (s.transactionByte p value)

/-- PORT_RESET (R169). -/
def execPortReset (p : Agent) (s : State) : Host.Outcome State Fault Refusal := .next (s.transactionByte p 0xC3)

/-- TRANSACTION_END (R163). -/
def execTransactionEnd (p : Agent) (s : State) : Host.Outcome State Fault Refusal := .next (s.deselectPort p)

/-- BYTE_SHIFTED (R162, R164, R167). -/
def execByteShifted (p : Agent) (value : Byte) (s : State) : Host.Outcome State Fault Refusal :=
  .next (s.shiftByte p value)

/-- DEVICE_RESET (R170). -/
def execDeviceReset (s : State) : Host.Outcome State Fault Refusal := .next s.deviceReset

/-- RESET_RELEASE (R170). -/
def execResetRelease (s : State) : Host.Outcome State Fault Refusal := .next s.releaseReset

/-- REFCLK_STOP (R19). -/
def execRefclkStop (s : State) : Host.Outcome State Fault Refusal := .next { s with refclk := false }

/-- REFCLK_RESUME (R19). -/
def execRefclkResume (s : State) : Host.Outcome State Fault Refusal := .next { s with refclk := true }

end Sys2Proof.Machine
end

