-- ==== Sys2Proof/Machine/Events.lean ====
section
/-! DEFINITION. The events that REFCLK brings about: the REFCLK period itself, count advances, edges, gate changes, lease
clock advances and expiries, and the meanings of their rows (R1, R5, R18, R24, R106, R119, R144; log entries 5 to 10). -/

namespace Sys2Proof.Machine

/-! ## Expiries (R24, R144) -/

/-- The deadline of the open ballot has reached 0 (R144). -/
def State.deadlineOut (s : State) : Bool :=
  match s.ballot.slot with
  | .openSlot b => b.deadline == 0
  | .empty => false
  | .passed _ _ => false

/-- The expiries that stand to be taken. -/
def State.expiries (s : State) : List Event :=
  ((List.finRange 4).filter fun a => (s.session a).leaseOut).map Event.leaseExpiry
    ++ if s.deadlineOut then [.deadlineExpiry] else []

/-- Take one expiry. -/
def State.expire (e : Event) (s : State) : State :=
  match e with
  | .leaseExpiry a => s.expireLease a
  | .deadlineExpiry => s.expireDeadline
  | .countAdvance => s
  | .triggerEdge => s
  | .gateChange _ => s
  | .captureEdge _ _ => s
  | .leaseClockAdvance => s

/-- Take events one after another until none stands, in an order the spec leaves open (log entry 6). -/
def takeAll (take : Event → State → State) (untaken : State → List Event) : Nat → State → State
  | 0, s => s
  | fuel + 1, s =>
    match untaken s with
    | [] => s
    | [e] => takeAll take untaken fuel (take e s)
    | e :: f :: rest =>
      let i := s.chosen (e :: f :: rest).length
      takeAll take untaken fuel (take ((e :: f :: rest).getD i e) { s with freeCount := s.freeCount + 1 })

/-- Every expiry that stands is taken: four leases and one deadline at most. -/
def State.takeExpiries (s : State) : State := takeAll State.expire State.expiries 5 s

/-! ## The lease clock (R18) -/

/-- The open ballot's deadline is lowered by 1 ms (R144). -/
def Slot.lowerDeadline : Slot → Slot
  | .empty => .empty
  | .openSlot b => .openSlot { b with deadline := b.deadline - 1 }
  | .passed a p => .passed a p

/-- Every running lease and the deadline of an open ballot are lowered by 1 ms (R18). -/
def State.lowerLeases (s : State) : State :=
  { s with
    time := { s.time with leasePhase := 0 }
    sessions := Bank.build fun a => (s.session a).lowerLease
    ballot := { s.ballot with slot := s.ballot.slot.lowerDeadline } }

/-- An advance of the lease clock. Expiries of the advance before it are taken first (log entry 5). -/
def State.advanceLease (s : State) : State := s.takeExpiries.lowerLeases

/-! ## Taking an event -/

/-- What an event does when it is taken. -/
def State.perform (e : Event) (s : State) : State :=
  match e with
  | .countAdvance => s.advanceCount
  | .triggerEdge => s.takeTriggerEdge
  | .gateChange level => s.takeGateChange level
  | .captureEdge i edge => s.takeEdge i edge
  | .leaseClockAdvance => s.advanceLease
  | .leaseExpiry a => s.expireLease a
  | .deadlineExpiry => s.expireDeadline

/-- An event is taken: it stands no longer, and has its effect. -/
def State.takeEvent (e : Event) (s : State) : State :=
  ({ s with arisen := s.arisen.filter fun f => f != e }).perform e

/-- The events that stand to be taken. -/
def State.untaken (s : State) : List Event := s.arisen ++ s.expiries

/-- Whatever the last REFCLK period brought about and no command has taken is taken before the next sample (log entry
5). A lease clock advance among it can bring five expiries more. -/
def State.takeLeft (s : State) : State := takeAll State.takeEvent State.untaken (s.arisen.length + 10) s

/-! ## Sampling the sense lines (R5, R119) -/

/-- The capture path of a line is sampled: the sample counts toward a change, or stays as it is where the change
arises. -/
def SenseLine.take (sample : Level) (l : SenseLine) : SenseLine :=
  { l with
    sample := sample
    path := if l.path.changes l.filter sample then l.path else l.path.count l.filter sample }

/-- The edge that a sample brings about on a capture path (R119). -/
def SenseLine.edge (i : Sense) (sample : Level) (l : SenseLine) : List Event :=
  if l.path.changes l.filter sample then [.captureEdge i (levelEdge sample)] else []

/-- A timing path is sampled at its source. A change to a level in `waits` arises as an event and is made when that event
is taken; any other change is made at once. A path without a source stands at its reset value (R5). -/
def Path.sampled (n : Nat) (source : Option Sense) (levels : Bank Level 8) (waits : Level → Bool) (p : Path) : Path :=
  match source with
  | none => .reset
  | some i =>
    if p.changes n (levels.read i) then if waits (levels.read i) then p else .at_ (levels.read i)
    else p.count n (levels.read i)

/-- The change that a sample brings about on a timing path. -/
def Path.change (n : Nat) (source : Option Sense) (levels : Bank Level 8) (p : Path) : Option Level :=
  match source with
  | none => none
  | some i => if p.changes n (levels.read i) then some (levels.read i) else none

/-- A change of the trigger path from LOW to HIGH is a trigger edge; one from HIGH to LOW is no event (R5). -/
def State.triggerEvents (s : State) (levels : Bank Level 8) : List Event :=
  match s.time.trigger.change s.settings.timingFilter s.settings.triggerSource levels with
  | some .high => [.triggerEdge]
  | some .low => []
  | none => []

/-- A change of the gate path's level is a change of gate activity (R5, R9). -/
def State.gateEvents (s : State) (levels : Bank Level 8) : List Event :=
  match s.time.gate.change s.settings.timingFilter s.settings.gateSource levels with
  | some l => [.gateChange l]
  | none => []

/-- The filtered edges that a sample brings about. -/
def State.captureEvents (s : State) (levels : Bank Level 8) : List Event :=
  (List.finRange 8).flatMap fun i => (s.senseLine i).edge i (levels.read i)

/-- Every sense line is sampled, for its capture path and for the timing paths it feeds (R5, R119). -/
def State.sampleLines (s : State) (levels : Bank Level 8) : State :=
  { s with
    time := { s.time with
      trigger := s.time.trigger.sampled s.settings.timingFilter s.settings.triggerSource levels (· == .high)
      gate := s.time.gate.sampled s.settings.timingFilter s.settings.gateSource levels fun _ => true }
    sense := Bank.build fun i => (s.senseLine i).take (levels.read i)
    arisen := s.arisen ++ s.captureEvents levels ++ s.triggerEvents levels ++ s.gateEvents levels }

/-! ## The dividers (R1, R18) -/

/-- The divider phase advances while RUNNING; where it would reach divider, a count advance arises (R1; log entry 12). -/
def State.tickDivider (s : State) : State :=
  if s.time.run = .running then
    if s.time.phase + 1 < s.settings.divider then { s with time := { s.time with phase := s.time.phase + 1 } }
    else { s with arisen := s.arisen ++ [.countAdvance] }
  else s

/-- The lease clock's phase advances; every 40,000 periods a lease clock advance arises (R18). -/
def State.tickLease (s : State) : State :=
  if s.time.leasePhase + 1 < Config.leaseDivider then
    { s with time := { s.time with leasePhase := s.time.leasePhase + 1 } }
  else { s with arisen := s.arisen ++ [.leaseClockAdvance] }

/-- One REFCLK period: what still stands from the last one is taken, ports and sense lines are sampled, and the dividers
advance (R1, R5, R18, R19). -/
def State.refclkPeriod (s : State) (levels : Bank Level 8) : State :=
  if s.live then ((s.takeLeft.samplePorts).sampleLines levels).tickDivider.tickLease else s

/-! ## Parts of a count advance as rows of their own (log entries 8 and 9) -/

/-- The pulse of a line at its last count ends (R106). -/
def State.endPulse (s : State) (d : Drive) : State :=
  if s.time.run = .running ∧ (s.line d).pulseEnd = some 1 then s.setLine d ((s.line d).endPulse s.settings d) else s

/-- The guard of a line at its last count ends (R106). -/
def State.endGuard (s : State) (d : Drive) : State :=
  if s.time.run = .running ∧ (s.line d).guardRemaining = 1 then s.setLine d { s.line d with guardRemaining := 0 } else s

/-- The boundary at which the budget runs out (R10): normal at the last count, early in RESTART mode (R4). As an early
boundary it takes no trigger edge: the trigger path keeps its level, and an edge that has arisen is still taken afterwards
(log entry 9). -/
def State.runOutBudget (s : State) : State :=
  if s.time.run = .running ∧ s.time.budgetRemaining = 1 then
    if s.settings.period ≤ s.time.count + 1 then ({ s with time := { s.time with phase := 0 } }).boundary true
    else if s.settings.mode = .restart then s.boundary false
    else s
  else s

/-! ## The meanings of the event rows -/

/-- COUNT_ADVANCE (R1). -/
def execCountAdvance (s : State) : Host.Outcome State Fault Refusal :=
  .next (if s.live then s.takeEvent .countAdvance else s)

/-- PULSE_END (R106). -/
def execPulseEnd (d : Drive) (s : State) : Host.Outcome State Fault Refusal :=
  .next (if s.live then s.endPulse d else s)

/-- GUARD_END (R106). -/
def execGuardEnd (d : Drive) (s : State) : Host.Outcome State Fault Refusal :=
  .next (if s.live then s.endGuard d else s)

/-- BUDGET_RUN_OUT (R10). -/
def execBudgetRunOut (s : State) : Host.Outcome State Fault Refusal :=
  .next (if s.live then s.runOutBudget else s)

/-- TRIGGER_EDGE (R7). -/
def execTriggerEdge (s : State) : Host.Outcome State Fault Refusal :=
  .next (if s.live then s.takeEvent .triggerEdge else s)

/-- GATE_CHANGE (R9). -/
def execGateChange (level : Level) (s : State) : Host.Outcome State Fault Refusal :=
  .next (if s.live then s.takeEvent (.gateChange level) else s)

/-- CAPTURE_EDGE (R123). -/
def execCaptureEdge (line : Sense) (edge : Edge) (s : State) : Host.Outcome State Fault Refusal :=
  .next (if s.live then s.takeEvent (.captureEdge line edge) else s)

/-- LEASE_CLOCK_ADVANCE (R18). -/
def execLeaseClockAdvance (s : State) : Host.Outcome State Fault Refusal :=
  .next (if s.live then s.takeEvent .leaseClockAdvance else s)

/-- LEASE_EXPIRY (R24). -/
def execLeaseExpiry (a : Agent) (s : State) : Host.Outcome State Fault Refusal :=
  .next (if s.live then s.takeEvent (.leaseExpiry a) else s)

/-- DEADLINE_EXPIRY (R144). -/
def execDeadlineExpiry (s : State) : Host.Outcome State Fault Refusal :=
  .next (if s.live then s.takeEvent .deadlineExpiry else s)

/-- REFCLK_PERIOD (R1, R5, R18, R19, R119). -/
def execRefclkPeriod (levels : Bank Level 8) (s : State) : Host.Outcome State Fault Refusal :=
  .next (s.refclkPeriod levels)

end Sys2Proof.Machine
end

