-- ==== Sys2Proof/Machine/Dispatch.lean ====
section
/-! DEFINITION. The meaning of each command: one arm for each row of spec/opcode_table.json. -/

namespace Sys2Proof.Machine

def exec (i : Instr) (s : State) : Host.Outcome State Fault Refusal :=
  match i with
  -- command frames
  | .openSession p tag payload => Sys2Proof.Machine.execOpenSession p tag payload s
  | .closeNow p tag payload => Sys2Proof.Machine.execCloseNow p tag payload s
  | .closeAtBoundary p tag payload => Sys2Proof.Machine.execCloseAtBoundary p tag payload s
  | .renew p tag payload => Sys2Proof.Machine.execRenew p tag payload s
  | .status p tag payload => Sys2Proof.Machine.execStatus p tag payload s
  | .reserve p tag payload => Sys2Proof.Machine.execReserve p tag payload s
  | .release p tag payload => Sys2Proof.Machine.execRelease p tag payload s
  | .stageEntry p tag payload => Sys2Proof.Machine.execStageEntry p tag payload s
  | .amendEntry p tag payload => Sys2Proof.Machine.execAmendEntry p tag payload s
  | .withdrawEntry p tag payload => Sys2Proof.Machine.execWithdrawEntry p tag payload s
  | .clearStaging p tag payload => Sys2Proof.Machine.execClearStaging p tag payload s
  | .readStaged p tag payload => Sys2Proof.Machine.execReadStaged p tag payload s
  | .readActive p tag payload => Sys2Proof.Machine.execReadActive p tag payload s
  | .commit p tag payload => Sys2Proof.Machine.execCommit p tag payload s
  | .abandon p tag payload => Sys2Proof.Machine.execAbandon p tag payload s
  | .forceLine p tag payload => Sys2Proof.Machine.execForceLine p tag payload s
  | .unforceLine p tag payload => Sys2Proof.Machine.execUnforceLine p tag payload s
  | .setSense p tag payload => Sys2Proof.Machine.execSetSense p tag payload s
  | .armSense p tag payload => Sys2Proof.Machine.execArmSense p tag payload s
  | .disarmSense p tag payload => Sys2Proof.Machine.execDisarmSense p tag payload s
  | .readCaptures p tag payload => Sys2Proof.Machine.execReadCaptures p tag payload s
  | .propose p tag payload => Sys2Proof.Machine.execPropose p tag payload s
  | .vote p tag payload => Sys2Proof.Machine.execVote p tag payload s
  | .retract p tag payload => Sys2Proof.Machine.execRetract p tag payload s
  | .readSettings p tag payload => Sys2Proof.Machine.execReadSettings p tag payload s
  | .readBallot p tag payload => Sys2Proof.Machine.execReadBallot p tag payload s
  | .readNotices p tag payload => Sys2Proof.Machine.execReadNotices p tag payload s
  | .unknownCommand p code tag payload => Sys2Proof.Machine.execUnknownCommand p code tag payload s
  -- steps of a port
  | .transactionStart p => Sys2Proof.Machine.execTransactionStart p s
  | .send p => Sys2Proof.Machine.execSend p s
  | .fetch p => Sys2Proof.Machine.execFetch p s
  | .peek p value => Sys2Proof.Machine.execPeek p value s
  | .portReset p => Sys2Proof.Machine.execPortReset p s
  | .transactionEnd p => Sys2Proof.Machine.execTransactionEnd p s
  -- resets and REFCLK
  | .deviceReset => Sys2Proof.Machine.execDeviceReset s
  | .resetRelease => Sys2Proof.Machine.execResetRelease s
  | .refclkStop => Sys2Proof.Machine.execRefclkStop s
  | .refclkResume => Sys2Proof.Machine.execRefclkResume s
  -- time base, drive engine, capture
  | .countAdvance => Sys2Proof.Machine.execCountAdvance s
  | .pulseEnd d => Sys2Proof.Machine.execPulseEnd d s
  | .guardEnd d => Sys2Proof.Machine.execGuardEnd d s
  | .budgetRunOut => Sys2Proof.Machine.execBudgetRunOut s
  | .triggerEdge => Sys2Proof.Machine.execTriggerEdge s
  | .gateChange level => Sys2Proof.Machine.execGateChange level s
  | .captureEdge line edge => Sys2Proof.Machine.execCaptureEdge line edge s
  -- lease clock and deadlines
  | .leaseClockAdvance => Sys2Proof.Machine.execLeaseClockAdvance s
  | .leaseExpiry a => Sys2Proof.Machine.execLeaseExpiry a s
  | .deadlineExpiry => Sys2Proof.Machine.execDeadlineExpiry s
  | .refclkPeriod levels => Sys2Proof.Machine.execRefclkPeriod levels s
  | .byteShifted p value => Sys2Proof.Machine.execByteShifted p value s

end Sys2Proof.Machine
end

