-- ==== Sys2Proof/Safety.lean ====
section
/-! DEFINITION. What the spec says is so at every moment, as properties of a state: the capacities of the queues, what a
session that has ended holds, who owns the lines that entries name, the interlock, and the legal values of the time
base. -/

namespace Sys2Proof.Machine

/-! ## Capacities (R127, R153, R155, R161) -/

/-- No queue holds more than its capacity, and no saturating count exceeds 255. -/
structure QueuesFit (s : State) : Prop where
  responses : ∀ p, (s.port p).responses.length ≤ 4
  notices : ∀ a, (s.session a).notices.length ≤ 8
  captures : ∀ a, (s.session a).captures.length ≤ 32
  lostNotices : ∀ a, (s.session a).lostNotices ≤ 255
  lostSense : ∀ a i, (s.session a).lostSense.read i ≤ 255
  lostMarker : ∀ a, (s.session a).lostMarker ≤ 255

/-! ## Sessions, ownership and the interlock (R21, R32, R40, R49, R52, R99) -/

/-- What R21 says of a session that is CLOSED or EXPIRED, apart from the lines it owns. -/
def Session.holdsNothing (q : Session) : Prop :=
  q.lease = none ∧ q.commit = .none ∧ q.staging = [] ∧ q.active = [] ∧ q.captures = [] ∧ q.notices = []

/-- The state of sessions, ownership, entries and drive lines fits together. -/
structure Coherent (s : State) : Prop where
  /-- Only an OPEN or CLOSING session owns a drive line (R21). -/
  driveOwners : ∀ d a, s.driveOwner.read d = some a → (s.session a).state.present = true
  /-- Only an OPEN or CLOSING session owns a sense line (R21). -/
  senseOwners : ∀ i a, s.senseOwner.read i = some a → (s.session a).state.present = true
  /-- A CLOSED or EXPIRED session holds nothing (R21). -/
  ended : ∀ a, (s.session a).state.present = false → (s.session a).holdsNothing
  /-- An agent owns every line that an entry of its staging list names (R65, R45). -/
  stagedLines : ∀ a, ∀ e ∈ (s.session a).staging, s.ownsTarget a e.target = true
  /-- An agent owns every line that an entry of its active part names (R82, R45). -/
  activeLines : ∀ a, ∀ e ∈ (s.session a).active, s.ownsTarget a e.target = true
  /-- An unowned drive line is in the unowned condition (R49). -/
  unownedIdle : ∀ d, s.driveOwner.read d = none → s.line d = .idle
  /-- No line of the ballot lock set is owned (R52, R138). -/
  lockedUnowned : ∀ d, s.lockSet.read d = true → s.driveOwner.read d = none
  /-- Both lines of an interlocked pair have the same owner (R40, R32). -/
  pairOwner : ∀ d, interlocked s.settings d = true → s.driveOwner.read (partner d) = s.driveOwner.read d
  /-- An interlocked pair never has both lines ASSERTED (R99). -/
  interlock : ∀ d, interlocked s.settings d = true →
    ¬ ((s.line d).asserted = true ∧ (s.line (partner d)).asserted = true)

/-! ## The time base (section 1.1, R6, R135) -/

/-- The settings record holds values in the ranges of R135 and a source for its mode (R6). -/
structure Settings.Legal (st : Settings) : Prop where
  period : 2 ≤ st.period ∧ st.period ≤ 65536
  divider : 1 ≤ st.divider ∧ st.divider ≤ 4096
  budget : st.budget ≤ 65535
  timingFilter : st.timingFilter ≤ 15
  guard : ∀ k, (st.pairSetup.read k).guard ≤ 1023
  quotaSum : st.quotaSum ≤ 128
  sourced : st.sourced = true

/-- The time base holds legal values (section 1.1, R1, R11), and a proposal that stands leads to legal settings. -/
structure LegalTime (s : State) : Prop where
  settings : s.settings.Legal
  proposal : ∀ p, s.ballot.slot.proposal? = some p → (s.settings.updated p).Legal
  count : s.time.count < s.settings.period
  phase : s.time.phase < s.settings.divider
  idle : s.time.run.isRunning = false → s.time.count = 0 ∧ s.time.phase = 0 ∧ s.time.originReached = false
  armed : s.time.run = .armed → s.settings.mode = .triggered
  held : s.time.run = .held → s.settings.mode = .gated

/-! ## The timetable (R56, R57, R60 to R63, R75) -/

/-- The fields of an entry lie in the ranges of section 4.1. -/
structure Entry.Legal (e : Entry) : Prop where
  handle : e.handle < 128
  suits : e.action.suits e.target = true
  offset : e.offset < 65536
  width : ∀ w, e.action = .pulse w → 1 ≤ w ∧ w < 65536
  cadence : ∀ c, e.cadence = some c → 1 ≤ c.interval ∧ c.interval ≤ 16 ∧ c.phase < c.interval

/-- A staging list or an active part: legal entries in ascending handle order, no two with the same target and offset. -/
structure EntriesFit (list : List Entry) : Prop where
  legal : ∀ e ∈ list, e.Legal
  ascending : list.Pairwise fun e f => e.handle < f.handle
  distinct : list.Pairwise fun e f => ¬ (e.target = f.target ∧ e.offset = f.offset)

/-- Every agent's lists fit the settings, and the proposal of a standing ballot. -/
structure TimetableFits (s : State) : Prop where
  staged : ∀ a, EntriesFit (s.session a).staging
  active : ∀ a, EntriesFit (s.session a).active
  /-- Every offset lies below the period (R57). -/
  offsets : ∀ a e, e ∈ (s.session a).staging ∨ e ∈ (s.session a).active → e.offset < s.settings.period
  /-- Every offset lies below a proposed period (R57, R139). -/
  proposedOffsets : ∀ p k, s.ballot.slot.proposal? = some p → p.period = some k →
    ∀ a e, e ∈ (s.session a).staging ∨ e ∈ (s.session a).active → e.offset < k
  /-- Staged and active entries number at most the quota (R63). -/
  counts : ∀ a, (s.session a).staging.length ≤ s.settings.quota.read a
    ∧ (s.session a).active.length ≤ s.settings.quota.read a
  /-- They number at most a proposed quota (R63, R139). -/
  proposedCounts : ∀ p a k, s.ballot.slot.proposal? = some p → p.quota.read a = some k →
    (s.session a).staging.length ≤ k ∧ (s.session a).active.length ≤ k
  quota : ∀ a, s.settings.quota.read a ≤ 128
  proposedQuota : ∀ p a k, s.ballot.slot.proposal? = some p → p.quota.read a = some k → k ≤ 128

/-! ## Drive lines (R98, R99) -/

/-- The fields of each drive line are related as R98 says, and those of an interlocked pair as R99 says. -/
structure LinesFit (s : State) : Prop where
  forcedAsserted : ∀ d, (s.line d).forcing = .forcedAsserted → (s.line d).asserted = true
  forcedDeasserted : ∀ d, (s.line d).forcing = .forcedDeasserted → (s.line d).asserted = false
  pulseEnd : ∀ d k, (s.line d).pulseEnd = some k →
    (s.line d).asserted = true ∧ (s.line d).forcing = .free ∧ 1 ≤ k ∧ k ≤ 65535
  deferred : ∀ d x, (s.line d).deferred = some x →
    (s.line d).asserted = false ∧ (s.line d).forcing = .free ∧ interlocked s.settings d = true
    ∧ (s.line d).guardRemaining = 0 ∧ ∀ w, x.kind = .pulse w → 1 ≤ w ∧ w ≤ 65535
  guard : ∀ d, 0 < (s.line d).guardRemaining →
    (s.line d).asserted = false ∧ interlocked s.settings d = true ∧ (s.line d).guardRemaining ≤ 1023
  /-- While a line of an interlocked pair is ASSERTED, its partner is not in guard. -/
  partnerClear : ∀ d, interlocked s.settings d = true → (s.line d).asserted = true →
    (s.line (partner d)).guardRemaining = 0
  /-- At most one line of a pair is in guard. -/
  oneGuard : ∀ d, ¬ (0 < (s.line d).guardRemaining ∧ 0 < (s.line (partner d)).guardRemaining)
  /-- At most one line of a pair has a deferred assert. -/
  oneDeferred : ∀ d, ¬ ((s.line d).deferred ≠ none ∧ (s.line (partner d)).deferred ≠ none)

/-! ## What a boundary and a count reached do to sessions and ownership (R13, R32, R59, R88) -/

/-- The parts of a session record that only commands, exchanges and the end of the session change. -/
structure Session.SameRecord (q r : Session) : Prop where
  state : r.state = q.state
  epoch : r.epoch = q.epoch
  lease : r.lease = q.lease
  commit : r.commit = q.commit
  staging : r.staging = q.staging
  active : r.active = q.active
  applied : r.applied = q.applied

/-- What a boundary that leads from `s` to `t` does to sessions and ownership (parts 2 and 4 of R13). -/
structure BoundaryCrossed (s t : State) : Prop where
  /-- No commit is PENDING after a boundary (R88). -/
  settled : ∀ a, (t.session a).commit = .none
  /-- A session that is not CLOSING stays as it is, with its staging list. -/
  kept : ∀ a, (s.session a).state ≠ .closing →
    (t.session a).state = (s.session a).state ∧ (t.session a).epoch = (s.session a).epoch
    ∧ (t.session a).lease = (s.session a).lease ∧ (t.session a).staging = (s.session a).staging
  /-- A PENDING commit is exchanged, with the number of the cycle that begins (R88, R90). -/
  exchanged : ∀ a c, (s.session a).state ≠ .closing → (s.session a).commit = .pending c →
    (t.session a).active = (s.session a).staging ∧ (t.session a).applied = some t.time.cycle
  /-- Without one, the active part stays. -/
  unexchanged : ∀ a, (s.session a).state ≠ .closing → (s.session a).commit = .none →
    (t.session a).active = (s.session a).active ∧ (t.session a).applied = (s.session a).applied
  /-- A CLOSING session is torn down (R31, R32). -/
  closed : ∀ a, (s.session a).state = .closing →
    (t.session a).state = .closed ∧ (t.session a).epoch = (s.session a).epoch ∧ (t.session a).holdsNothing
    ∧ (∀ d, t.driveOwner.read d ≠ some a) ∧ ∀ i, t.senseOwner.read i ≠ some a
  /-- A drive line keeps an owner that is not CLOSING. -/
  driveOwners : ∀ d, (∀ a, s.driveOwner.read d = some a → (s.session a).state ≠ .closing) →
    t.driveOwner.read d = s.driveOwner.read d
  /-- A sense line keeps an owner that is not CLOSING. -/
  senseOwners : ∀ i, (∀ a, s.senseOwner.read i = some a → (s.session a).state ≠ .closing) →
    t.senseOwner.read i = s.senseOwner.read i
  /-- Ports, pins, REFCLK and the commands that wait are not concerned. -/
  outside : t.ports = s.ports ∧ t.resetLow = s.resetLow ∧ t.refclk = s.refclk ∧ t.pending = s.pending

/-- A drive line brought down by a stop (R11, R115). -/
def DriveLine.stopped (l : DriveLine) : DriveLine :=
  ⟨l.asserted && l.forcing != .free, l.forcing, none, none, 0⟩

/-- A cycle begins: the cycle number rises, count, divider phase and origin reached are cleared, and in RUNNING count 0 is
reached. A count advance that has arisen in the cycle before does not happen (R3; log entry 12). -/
def CycleBegun (s t : State) : Prop :=
  ∃ u : State,
    u = { s with
      time := { s.time with cycle := s.time.cycle + 1, count := 0, phase := 0, originReached := false }
      arisen := s.arisen.filter fun e => e != Event.countAdvance }
    ∧ t = if s.time.run = .running then u.reach 0 else u

/-- A boundary that leads from `s` to `t`, part by part (R13, R14); `normal` tells a normal boundary from an early one (R4).
Every notice carries the cycle number after the boundary, `n` (R17). -/
structure BoundaryParts (s : State) (normal : Bool) (n : Cycle) (s1 s2 s3 s4 s5 t : State) : Prop where
  /-- The number after the boundary. -/
  number : n = if t.time.run.isRunning then s.time.cycle + 1 else s.time.cycle
  /-- Part 1: the countdown of a normal boundary, then the budget (R10, R11, R106). -/
  closing : ∃ u : State, u = (if normal then s.countdown n else s)
    ∧ (u.time.budgetRemaining = 0 → s1 = u)
    ∧ (2 ≤ u.time.budgetRemaining →
      s1 = { u with time := { u.time with budgetRemaining := u.time.budgetRemaining - 1 } })
    ∧ (u.time.budgetRemaining = 1 → s1 = { u with
        time := { u.time with
          run := if u.settings.mode = .triggered then .armed else .stopped
          count := 0
          phase := 0
          originReached := false
          budgetRemaining := 0 }
        drive := Bank.build fun d => (u.line d).stopped
        arisen := u.arisen.filter fun e => e != Event.countAdvance })
  /-- Part 2: every PENDING commit is exchanged, with COMMIT_APPLIED to its agent (R88, R90, R91). -/
  exchange : s2 = { s1 with sessions := Bank.build fun a =>
    match (s1.session a).commit with
    | .none => s1.session a
    | .pending _ =>
      let q : Session := { s1.session a with
        active := (s1.session a).staging
        applied := some n
        commit := .none }
      if q.state.present then q.offer ⟨.commitApplied q.staging.length .boundary, n⟩ else q }
  /-- Part 3: the settings of a PASSED ballot are applied, with SETTINGS_APPLIED to all (R149, R150). -/
  settings : ∀ b p, s2.ballot.slot = .passed b p → s3 =
    ({ s2.applySettings p with ballot := { s2.ballot with slot := .empty } }).notifyAll n
      (.settingsApplied s2.ballot.number .boundary)
  noSettings : (∀ b p, s2.ballot.slot ≠ .passed b p) → s3 = s2
  /-- Part 4: the CLOSING sessions are torn down, in some order (R34; log entry 6). -/
  teardown : ∃ (order : List Agent) (k : Nat),
    order.Perm ((List.finRange 4).filter fun a => (s3.session a).state == .closing)
    ∧ s4 = { order.foldl (fun u a => u.tearDown n a .closed .closed) s3 with freeCount := k }
  /-- Part 5: deferred asserts lapse (R108). -/
  lapse : s5 = s4.lapseDeferrals n
  /-- Completion (R14), and then the one TIMEBASE_CHANGED of R12, if the class of the run state changed in part 1 or 3. -/
  completion : ∃ u : State,
    (s5.time.run.isRunning = false → u = s5)
    ∧ (s5.time.run.isRunning = true → CycleBegun
      { s5 with time := { s5.time with
        run := if s5.settings.mode = .gated ∧ s5.time.gate.level = .low then .held else .running } } u)
    ∧ (s3.time.run.runClass ≠ s1.time.run.runClass → t = u.notifyAll n
      (.timebaseChanged u.time.run u.settings.mode .settings u.time.budgetRemaining))
    ∧ (s3.time.run.runClass = s1.time.run.runClass → s1.time.run.isRunning = true → t = u)
    ∧ (s3.time.run.runClass = s1.time.run.runClass → s1.time.run.isRunning = false → t = u.notifyAll n
      (.timebaseChanged u.time.run u.settings.mode .budgetEnd u.time.budgetRemaining))

/-- A boundary leads from `s` to `t` through its five parts. -/
def IsBoundary (s : State) (normal : Bool) (t : State) : Prop :=
  ∃ (n : Cycle) (s1 s2 s3 s4 s5 : State), BoundaryParts s normal n s1 s2 s3 s4 s5 t

/-- What reaching count 0 leaves as it is, from `s` to `t`: everything but the lines that an entry at offset 0 names, the
capture queues and the notices (R59). -/
structure OriginReached (s t : State) : Prop where
  settings : t.settings = s.settings
  ballot : t.ballot = s.ballot
  driveOwner : t.driveOwner = s.driveOwner
  senseOwner : t.senseOwner = s.senseOwner
  sessions : ∀ a, (s.session a).SameRecord (t.session a)
  lines : ∀ d, (∀ a, ∀ e ∈ (s.session a).active, e.target = .drive d → e.offset ≠ 0) → t.line d = s.line d
  senseLines : ∀ i, (∀ a, ∀ e ∈ (s.session a).active, e.target = .sense i → e.offset ≠ 0) →
    t.senseLine i = s.senseLine i
  outside : t.ports = s.ports ∧ t.resetLow = s.resetLow ∧ t.refclk = s.refclk ∧ t.pending = s.pending

/-! ## Command frames on a port (R165, R166) -/

/-- A command frame as it is received. -/
structure Frame where
  port : Agent
  code : Byte
  tag : Byte
  payload : List Byte
  deriving DecidableEq, Repr

end Sys2Proof.Machine

namespace Sys2Proof

/-- The frame that a command-frame row carries, with its code (section 11.2). -/
def Instr.frame? : Instr → Option Machine.Frame
  | .openSession p tag payload => some ⟨p, 0x01, tag, payload⟩
  | .closeNow p tag payload => some ⟨p, 0x02, tag, payload⟩
  | .closeAtBoundary p tag payload => some ⟨p, 0x02, tag, payload⟩
  | .renew p tag payload => some ⟨p, 0x03, tag, payload⟩
  | .status p tag payload => some ⟨p, 0x04, tag, payload⟩
  | .reserve p tag payload => some ⟨p, 0x05, tag, payload⟩
  | .release p tag payload => some ⟨p, 0x06, tag, payload⟩
  | .stageEntry p tag payload => some ⟨p, 0x07, tag, payload⟩
  | .amendEntry p tag payload => some ⟨p, 0x08, tag, payload⟩
  | .withdrawEntry p tag payload => some ⟨p, 0x09, tag, payload⟩
  | .clearStaging p tag payload => some ⟨p, 0x0A, tag, payload⟩
  | .readStaged p tag payload => some ⟨p, 0x0B, tag, payload⟩
  | .readActive p tag payload => some ⟨p, 0x0C, tag, payload⟩
  | .commit p tag payload => some ⟨p, 0x0D, tag, payload⟩
  | .abandon p tag payload => some ⟨p, 0x0E, tag, payload⟩
  | .forceLine p tag payload => some ⟨p, 0x0F, tag, payload⟩
  | .unforceLine p tag payload => some ⟨p, 0x10, tag, payload⟩
  | .setSense p tag payload => some ⟨p, 0x11, tag, payload⟩
  | .armSense p tag payload => some ⟨p, 0x12, tag, payload⟩
  | .disarmSense p tag payload => some ⟨p, 0x13, tag, payload⟩
  | .readCaptures p tag payload => some ⟨p, 0x14, tag, payload⟩
  | .propose p tag payload => some ⟨p, 0x15, tag, payload⟩
  | .vote p tag payload => some ⟨p, 0x16, tag, payload⟩
  | .retract p tag payload => some ⟨p, 0x17, tag, payload⟩
  | .readSettings p tag payload => some ⟨p, 0x18, tag, payload⟩
  | .readBallot p tag payload => some ⟨p, 0x19, tag, payload⟩
  | .readNotices p tag payload => some ⟨p, 0x1A, tag, payload⟩
  | .unknownCommand p code tag payload => some ⟨p, code, tag, payload⟩
  | .transactionStart _ => none
  | .send _ => none
  | .fetch _ => none
  | .peek _ _ => none
  | .portReset _ => none
  | .transactionEnd _ => none
  | .deviceReset => none
  | .resetRelease => none
  | .refclkStop => none
  | .refclkResume => none
  | .countAdvance => none
  | .pulseEnd _ => none
  | .guardEnd _ => none
  | .budgetRunOut => none
  | .triggerEdge => none
  | .gateChange _ => none
  | .captureEdge _ _ => none
  | .leaseClockAdvance => none
  | .leaseExpiry _ => none
  | .deadlineExpiry => none
  | .refclkPeriod _ => none
  | .byteShifted _ _ => none

/-- The rows that act on a pin, a reset or REFCLK itself, and so do not wait for REFCLK to run (R19, R170). -/
def Instr.outside : Instr → Bool
  | .transactionStart _ => true
  | .transactionEnd _ => true
  | .deviceReset => true
  | .resetRelease => true
  | .refclkStop => true
  | .refclkResume => true
  | .openSession _ _ _ => false
  | .closeNow _ _ _ => false
  | .closeAtBoundary _ _ _ => false
  | .renew _ _ _ => false
  | .status _ _ _ => false
  | .reserve _ _ _ => false
  | .release _ _ _ => false
  | .stageEntry _ _ _ => false
  | .amendEntry _ _ _ => false
  | .withdrawEntry _ _ _ => false
  | .clearStaging _ _ _ => false
  | .readStaged _ _ _ => false
  | .readActive _ _ _ => false
  | .commit _ _ _ => false
  | .abandon _ _ _ => false
  | .forceLine _ _ _ => false
  | .unforceLine _ _ _ => false
  | .setSense _ _ _ => false
  | .armSense _ _ _ => false
  | .disarmSense _ _ _ => false
  | .readCaptures _ _ _ => false
  | .propose _ _ _ => false
  | .vote _ _ _ => false
  | .retract _ _ _ => false
  | .readSettings _ _ _ => false
  | .readBallot _ _ _ => false
  | .readNotices _ _ _ => false
  | .unknownCommand _ _ _ _ => false
  | .send _ => false
  | .fetch _ => false
  | .peek _ _ => false
  | .portReset _ => false
  | .countAdvance => false
  | .pulseEnd _ => false
  | .guardEnd _ => false
  | .budgetRunOut => false
  | .triggerEdge => false
  | .gateChange _ => false
  | .captureEdge _ _ => false
  | .leaseClockAdvance => false
  | .leaseExpiry _ => false
  | .deadlineExpiry => false
  | .refclkPeriod _ => false
  | .byteShifted _ _ => false

end Sys2Proof

namespace Sys2Proof.Machine

/-- A port takes a command frame and has room for its response: REFCLK runs, the part is out of device reset, SELn_N has been
seen as it is, the transaction can still carry a frame, or none stands and the frame's row stands for a whole one (log entry
4), and fewer than 4 responses wait (R19, R163, R165, R170). -/
structure State.Accepts (s : State) (p : Agent) : Prop where
  live : s.live = true
  /-- No change of SELn_N was made while REFCLK was stopped and is still to be sampled. -/
  seen : (s.port p).selected = true ↔ (s.port p).transaction ≠ .idle
  listening : (s.port p).transaction.awaitsFrame = true
  room : (s.port p).responses.length < 4

/-- The same port, but with 4 responses waiting (R165). -/
structure State.Full (s : State) (p : Agent) : Prop where
  live : s.live = true
  seen : (s.port p).selected = true ↔ (s.port p).transaction ≠ .idle
  listening : (s.port p).transaction.awaitsFrame = true
  full : 4 ≤ (s.port p).responses.length

/-- What every executed frame does on its port, whatever its command: the transaction stands complete, or idle where none
stood (log entry 4), the lease of an OPEN or CLOSING session is renewed, and one response joins the queue (R23, R164,
R165). -/
def State.answered (s : State) (p : Agent) (r : Response) : State := ((s.settle p).renewLease p).respond p r

/-! ## What stands when a REFCLK period begins (log entry 5) -/

/-- The row that takes an event. -/
def Event.row : Event → Instr
  | .countAdvance => .countAdvance
  | .triggerEdge => .triggerEdge
  | .gateChange level => .gateChange level
  | .captureEdge i e => .captureEdge i e
  | .leaseClockAdvance => .leaseClockAdvance
  | .leaseExpiry a => .leaseExpiry a
  | .deadlineExpiry => .deadlineExpiry

/-- One of the events that stand is taken as its row takes it. Where several stand, which one is a free choice, and the
choice is counted (log entry 6). -/
def State.TakesOne (s t : State) : Prop :=
  ∃ e ∈ s.untaken, exec e.row
    { s with freeCount := if s.untaken.length = 1 then s.freeCount else s.freeCount + 1 } = .next t

end Sys2Proof.Machine
end

