-- ==== Sys2Proof/WellFormed.lean ====
section
/-! DEFINITION. Which commands spell something that can happen at the part's pins: a frame's payload length fits its
header (R164), and the operands of a row fit the row. The machine is total, and gives an ill-formed command the effect
its contents would have. -/

namespace Sys2Proof

/-- The payload length byte of a frame that completes is at most 60 (R164). -/
def payloadFits (payload : List Byte) : Bool := payload.length ≤ Config.payloadLimit

/-- Codes 01H to 1AH are commands (section 11.2). -/
def codeIsCommand (code : Byte) : Bool := 1 ≤ code.toNat && code.toNat ≤ 26

/-- A transaction byte other than SEND, FETCH and PORT_RESET is taken as PEEK (R163, R171). -/
def byteIsPeek (value : Byte) : Bool := value != 0xA5#8 && value != 0x5A#8 && value != 0xC3#8

/-- A CLOSE frame stands in the row CLOSE_AT_BOUNDARY when its payload is the one mode byte AT_BOUNDARY (01H), and in
the row CLOSE_NOW otherwise (R22: a mode that is neither is admitted by the row of NOW). -/
def Instr.wellFormed : Instr → Bool
  | .openSession _ _ payload => payloadFits payload
  | .closeNow _ _ payload => payloadFits payload && payload != [0x01#8]
  | .closeAtBoundary _ _ payload => payload == [0x01#8]
  | .renew _ _ payload => payloadFits payload
  | .status _ _ payload => payloadFits payload
  | .reserve _ _ payload => payloadFits payload
  | .release _ _ payload => payloadFits payload
  | .stageEntry _ _ payload => payloadFits payload
  | .amendEntry _ _ payload => payloadFits payload
  | .withdrawEntry _ _ payload => payloadFits payload
  | .clearStaging _ _ payload => payloadFits payload
  | .readStaged _ _ payload => payloadFits payload
  | .readActive _ _ payload => payloadFits payload
  | .commit _ _ payload => payloadFits payload
  | .abandon _ _ payload => payloadFits payload
  | .forceLine _ _ payload => payloadFits payload
  | .unforceLine _ _ payload => payloadFits payload
  | .setSense _ _ payload => payloadFits payload
  | .armSense _ _ payload => payloadFits payload
  | .disarmSense _ _ payload => payloadFits payload
  | .readCaptures _ _ payload => payloadFits payload
  | .propose _ _ payload => payloadFits payload
  | .vote _ _ payload => payloadFits payload
  | .retract _ _ payload => payloadFits payload
  | .readSettings _ _ payload => payloadFits payload
  | .readBallot _ _ payload => payloadFits payload
  | .readNotices _ _ payload => payloadFits payload
  | .unknownCommand _ code _ payload => !codeIsCommand code && payloadFits payload
  | .transactionStart _ => true
  | .send _ => true
  | .fetch _ => true
  | .peek _ value => byteIsPeek value
  | .portReset _ => true
  | .transactionEnd _ => true
  | .deviceReset => true
  | .resetRelease => true
  | .refclkStop => true
  | .refclkResume => true
  | .countAdvance => true
  | .pulseEnd _ => true
  | .guardEnd _ => true
  | .budgetRunOut => true
  | .triggerEdge => true
  | .gateChange _ => true
  | .captureEdge _ _ => true
  | .leaseClockAdvance => true
  | .leaseExpiry _ => true
  | .deadlineExpiry => true
  | .refclkPeriod _ => true
  | .byteShifted _ _ => true

end Sys2Proof
end

