-- ==== Sys2Proof/Certificates/Slice0/Obligations.lean ====
section
/-! DEFINITION. The statements about the L416. Each is about every state unless it says otherwise. A frame that is
executed always completes its transaction, renews its session's lease and answers: `State.answered` is that much, so a
state `{ s.answered p r with … }` or `(s.answered p r).set… …` says what the command changes beside, and that it changes
nothing else. That the row of a frame is taken in every stage of a transaction that can still carry a frame, and where no
transaction stands, and that it leaves the transaction complete, is the model's choice (log entry 4); it enters each
statement about a frame through `State.Accepts`, `State.Full`, `State.settle` and `State.answered`. -/

open Sys2Proof Sys2Proof.Machine

/-! ## The step, reset and what every step keeps -/

/-- A step runs the command at the front of the queue on the state with the rest of the queue; on an empty queue the
block idles (log entry 3). -/
def Obligations.StepRunsFrontCommand : Prop :=
  (∀ (c : Instr) (rest : List Instr) (s : State),
    step { s with pending := c :: rest } = exec c { s with pending := rest })
  ∧ ∀ s : State, s.pending = [] → step s = .next s

/-- Device reset and its release leave every block at the values of the reset tables: settings (R135), time base and
lease clock (R20, R18), ballot (R152), owners (R54), drive lines (R117), sense lines (R134), sessions (R37, R79, R134,
R160) and ports (R161). What lies outside the part (SELn_N, REFCLK) and the model's own fields stay (log entry 14). -/
def Obligations.DeviceResetGivesResetValues : Prop :=
  (∀ s : State, exec .deviceReset s = .next
    { settings := State.reset.settings, time := State.reset.time, ballot := State.reset.ballot,
      driveOwner := State.reset.driveOwner, senseOwner := State.reset.senseOwner, drive := State.reset.drive,
      sense := State.reset.sense, sessions := State.reset.sessions,
      ports := Bank.build fun p => ⟨(s.port p).selected, .idle, [], .none, none⟩,
      resetLow := true, refclk := s.refclk, arisen := [], freeCount := s.freeCount, pending := s.pending })
  ∧ (∀ s : State, s.resetLow = true → exec .resetRelease s = .next
    { s with
      resetLow := false
      ports := Bank.build fun p =>
        { s.port p with transaction := if (s.port p).selected then .ignored else .idle } })
  ∧ (∀ s : State, s.resetLow = false → exec .resetRelease s = .next s)
  ∧ ((State.reset.settings.period = 1000 ∧ State.reset.settings.divider = 40 ∧ State.reset.settings.mode = .free
      ∧ State.reset.settings.budget = 0 ∧ State.reset.settings.triggerSource = none
      ∧ State.reset.settings.gateSource = none ∧ State.reset.settings.timingFilter = 0
      ∧ (∀ a, State.reset.settings.quota.read a = 32) ∧ (∀ k, State.reset.settings.pairSetup.read k = ⟨false, 16⟩)
      ∧ ∀ d, State.reset.settings.idleLevel.read d = .low)
    ∧ State.reset.time = ⟨.stopped, 0, 0, 0, false, 0, ⟨.low, 0⟩, ⟨.low, 0⟩, 0⟩
    ∧ State.reset.ballot = ⟨0, .empty, none⟩
    ∧ (∀ d, State.reset.driveOwner.read d = none) ∧ (∀ i, State.reset.senseOwner.read i = none)
    ∧ (∀ d, State.reset.line d = ⟨false, .free, none, none, 0⟩)
    ∧ (∀ i, (State.reset.senseLine i).select = .rising ∧ (State.reset.senseLine i).prescale = 1
      ∧ (State.reset.senseLine i).counter = 0 ∧ (State.reset.senseLine i).filter = 0
      ∧ (State.reset.senseLine i).path = ⟨.low, 0⟩ ∧ (State.reset.senseLine i).armed = false)
    ∧ (∀ a, (State.reset.session a).state = .closed ∧ (State.reset.session a).epoch = 0
      ∧ (State.reset.session a).lease = none ∧ (State.reset.session a).commit = .none
      ∧ (State.reset.session a).staging = [] ∧ (State.reset.session a).active = []
      ∧ (State.reset.session a).applied = none ∧ (State.reset.session a).captures = []
      ∧ (State.reset.session a).sequence = 0 ∧ (∀ i, (State.reset.session a).lostSense.read i = 0)
      ∧ (State.reset.session a).lostMarker = 0 ∧ (State.reset.session a).overrun = false
      ∧ (State.reset.session a).notices = [] ∧ (State.reset.session a).lostNotices = 0
      ∧ (State.reset.session a).firstLoss = none)
    ∧ (∀ p, (State.reset.port p).framing = .idle ∧ (State.reset.port p).partialFrame = none
      ∧ (State.reset.port p).responses = [] ∧ (State.reset.port p).fetchPosition = 0
      ∧ (State.reset.port p).error = .none)
    ∧ (∀ a, State.reset.attention a = false) ∧ (∀ d, State.reset.pin d = .low))

/-- The invariants of the tier 3 statements hold right after reset. -/
def Obligations.ResetSatisfiesInvariants : Prop :=
  QueuesFit State.reset ∧ Coherent State.reset ∧ LegalTime State.reset ∧ TimetableFits State.reset
  ∧ LinesFit State.reset

/-- No step makes a queue longer than its capacity or a saturating count larger than 255 (R127 to R129, R153, R155,
R161, R165). -/
def Obligations.StepKeepsQueueCapacities : Prop :=
  ∀ s t : State, QueuesFit s → step s = .next t → QueuesFit t

/-- Every step keeps sessions, ownership, entries, the ballot lock and the interlock coherent: among the rest, the two
lines of an interlocked pair are never both ASSERTED (R99), and a session that has ended holds nothing (R21). -/
def Obligations.StepKeepsCoherence : Prop :=
  ∀ s t : State, Coherent s → step s = .next t → Coherent t

/-- Every step keeps the settings and the time base at legal values: the settings record in range with a source for its
mode (R135, R6), the count below the period, the divider phase below the divider, and ARMED and HELD only in the modes
they belong to (section 1.1, section 1.3). -/
def Obligations.StepKeepsLegalTime : Prop :=
  ∀ s t : State, LegalTime s → step s = .next t → LegalTime t

/-- Every step keeps the timetable within the settings: in each staging list and active part the entries are legal,
stand in ascending handle order and never share target and offset (R56, R60, R62), every offset lies below the period
and below a proposed period (R57), and the entries number at most the quota and a proposed quota (R63). -/
def Obligations.StepKeepsTheTimetableFitting : Prop :=
  ∀ s t : State, TimetableFits s → step s = .next t → TimetableFits t

/-- Every step keeps the fields of each drive line related as R98 says, and at most one line of a pair in guard or with
a deferred assert (R99), in states that satisfy the other invariants. -/
def Obligations.StepKeepsDriveLinesFitting : Prop :=
  ∀ s t : State, Coherent s → LegalTime s → TimetableFits s → LinesFit s → step s = .next t → LinesFit t

/-! ## Encodings (chapter 11) -/

/-- An entry whose fields lie in the ranges of section 4.1 is read back from its ten bytes: its handle, its target and
its other fields, as STAGE_ENTRY and as AMEND_ENTRY carry them. Any other bytes are refused: an action outside 01H-07H,
a width of 0 with PULSE or another one without it, a label without MARK, a phase without an interval, an interval above
16, a phase not below the interval, a drive line above 15, a sense line above 7, a MARKER with a line number, the kind
11, a handle above 127, and an action that the table of R56 does not give the target. -/
def Obligations.EntryRecordsAreReadOrRefused : Prop :=
  (∀ e : Entry, e.handle < 128 → e.action.suits e.target = true → e.offset < 65536
    → (∀ w, e.action = .pulse w → 1 ≤ w ∧ w < 65536)
    → (∀ c, e.cadence = some c → 1 ≤ c.interval ∧ c.interval ≤ 16 ∧ c.phase < c.interval)
    → e.bytes.length = 10 ∧ handleOf (byteAt e.bytes 0) = some e.handle
      ∧ stageOf (e.bytes.drop 1) = some (e.target, e.fields)
      ∧ entryFieldsOf (byte e.handle :: e.fields.bytes) = some e.fields)
  ∧ (∀ k : Nat, handleOf k = none ↔ 128 ≤ k)
  ∧ (∀ (act : Action) (target : Target), act.suits target = true ↔
    (∃ d, target = .drive d ∧ (act = .assert ∨ act = .deassert ∨ act = .toggle ∨ ∃ w, act = .pulse w))
    ∨ (∃ i, target = .sense i ∧ (act = .arm ∨ act = .disarm))
    ∨ (target = .marker ∧ ∃ b, act = .mark b))
  ∧ (∀ first act o1 o0 w1 w0 interval phase label : Byte,
    entryFieldsOf [first, act, o1, o0, w1, w0, interval, phase, label] = none ↔
      (act = 0 ∨ 8 ≤ act.toNat) ∨ (act = 4 ∧ w1 = 0 ∧ w0 = 0) ∨ (act ≠ 4 ∧ ¬ (w1 = 0 ∧ w0 = 0))
      ∨ (act ≠ 7 ∧ label ≠ 0) ∨ (interval = 0 ∧ phase ≠ 0) ∨ 17 ≤ interval.toNat
      ∨ (interval ≠ 0 ∧ interval.toNat ≤ phase.toNat))
  ∧ ∀ target act o1 o0 w1 w0 interval phase label : Byte,
    stageOf [target, act, o1, o0, w1, w0, interval, phase, label] = none ↔
      (target.toNat / 64 = 0 ∧ (16 ≤ target.toNat % 64 ∨ act = 5 ∨ act = 6 ∨ act = 7))
      ∨ (target.toNat / 64 = 1 ∧ (8 ≤ target.toNat % 64 ∨ act = 1 ∨ act = 2 ∨ act = 3 ∨ act = 4 ∨ act = 7))
      ∨ (target.toNat / 64 = 2 ∧ (target.toNat % 64 ≠ 0 ∨ 1 ≤ act.toNat ∧ act.toNat ≤ 6))
      ∨ target.toNat / 64 = 3
      ∨ entryFieldsOf [target, act, o1, o0, w1, w0, interval, phase, label] = none

/-- The settings record of a proposal whose fields are in the ranges of R135 is read back field by field, and neither
the unused-bit check of R173 nor the range rule of R136 refuses it, whatever stands where a field is absent. -/
def Obligations.SettingsRecordsRoundTrip : Prop :=
  ∀ (tag : Byte) (p : Proposal),
    (∀ k, p.period = some k → 2 ≤ k ∧ k ≤ 65536) → (∀ k, p.divider = some k → 1 ≤ k ∧ k ≤ 4096)
    → (∀ k, p.budget = some k → k ≤ 65535) → (∀ k, p.timingFilter = some k → k ≤ 15)
    → (∀ a k, p.quota.read a = some k → k ≤ 128) → (∀ i x, p.pairSetup.read i = some x → x.guard ≤ 1023)
    → (p.bytes tag).length = 38 ∧ proposalOf (p.bytes tag) = p ∧ rangeFault (p.bytes tag) = none
      ∧ unusedBitSet (p.bytes tag) = false

/-! ## Frames: the queue check, the frame checks and admission (R22, R23, R165, R166) -/

/-- The tables that every frame is checked against. Each of the 26 commands has its code (section 11.2) and its
permitted payload lengths (section 11.3), no other code names a command, and the checks of R166 come in their order:
the code, the length, the session state. Then R22, row by row: a CLOSE is of the row of AT_BOUNDARY if its mode byte is
01H, and of the row of NOW otherwise. -/
def Obligations.FrameChecksFollowTheTables : Prop :=
  (∀ x ∈ ([(.openSession, 0x01, [1]), (.close, 0x02, [1]), (.renew, 0x03, [0, 1]), (.status, 0x04, [0]),
      (.reserve, 0x05, [3]), (.release, 0x06, [3]), (.stageEntry, 0x07, [9]), (.amendEntry, 0x08, [9]),
      (.withdrawEntry, 0x09, [1]), (.clearStaging, 0x0A, [0]), (.readStaged, 0x0B, [1]), (.readActive, 0x0C, [2]),
      (.commit, 0x0D, [0]), (.abandon, 0x0E, [0]), (.forceLine, 0x0F, [2]), (.unforceLine, 0x10, [1]),
      (.setSense, 0x11, [4]), (.armSense, 0x12, [1]), (.disarmSense, 0x13, [1]), (.readCaptures, 0x14, [1]),
      (.propose, 0x15, [39]), (.vote, 0x16, [3]), (.retract, 0x17, [2]), (.readSettings, 0x18, [0]),
      (.readBallot, 0x19, [0]), (.readNotices, 0x1A, [1])] : List (Command × Byte × List Nat)),
    x.1.code = x.2.1 ∧ x.1.lengths = x.2.2)
  ∧ (∀ c : Command, Command.ofCode c.code = some c)
  ∧ (∀ (b : Byte) (c : Command), Command.ofCode b = some c → c.code = b)
  ∧ (∀ b : Byte, (Command.ofCode b).isSome = codeIsCommand b)
  ∧ (∀ (code : Byte) (payload : List Byte) (q : SessionState),
    (codeIsCommand code = false → frameRefusal code payload q = some .unknownCommand)
    ∧ ∀ c : Command, c.code = code →
      (payload.length ∉ c.lengths → frameRefusal code payload q = some .badFrame)
      ∧ (payload.length ∈ c.lengths → frameRefusal code payload q = (c.row payload).refusal q))
  ∧ ∀ payload : List Byte,
    (∀ q : SessionState, (Command.openSession.row payload).refusal q = if q.present then some .alreadyOpen else none)
    ∧ (∀ q : SessionState, (Command.status.row payload).refusal q = none)
    ∧ (∀ c : Command, (c = .renew ∨ c = .readNotices ∨ c = .readCaptures ∨ c = .readActive ∨ c = .readStaged
        ∨ c = .readSettings ∨ (c = .close ∧ byteAt payload 0 ≠ 1)) →
      (c.row payload).refusal .closed = some .noSession ∧ (c.row payload).refusal .openState = none
      ∧ (c.row payload).refusal .closing = none ∧ (c.row payload).refusal .expired = some .sessionExpired)
    ∧ (∀ c : Command, (c = .reserve ∨ c = .release ∨ c = .stageEntry ∨ c = .amendEntry ∨ c = .withdrawEntry
        ∨ c = .clearStaging ∨ c = .commit ∨ c = .abandon ∨ c = .forceLine ∨ c = .unforceLine ∨ c = .setSense
        ∨ c = .armSense ∨ c = .disarmSense ∨ c = .propose ∨ c = .vote ∨ c = .retract ∨ c = .readBallot
        ∨ (c = .close ∧ byteAt payload 0 = 1)) →
      (c.row payload).refusal .closed = some .noSession ∧ (c.row payload).refusal .openState = none
      ∧ (c.row payload).refusal .closing = some .sessionClosing
      ∧ (c.row payload).refusal .expired = some .sessionExpired)

/-- The frames that reach no owning block. One that fails a check of R166 is answered with that check's status and no
payload, a frame whose code is not a command with UNKNOWN_COMMAND and its own code; it renews the lease of an OPEN or
CLOSING session and changes nothing else. One completed while four responses wait is discarded: PORT_FULL is latched,
and nothing else but the port's transaction changes, not even a lease. A second frame in one transaction, and a frame
in one that is a FETCH or has its action complete or is ignored, changes nothing (R163, R170). A change of SELn_N made
while REFCLK was stopped is sampled before the frame, as TRANSACTION_END or TRANSACTION_START takes it (R19; log entry
13). -/
def Obligations.FramesAreRefusedDiscardedOrIgnored : Prop :=
  (∀ (i : Instr) (f : Frame) (status : Status) (s : State),
    i.frame? = some f → s.Accepts f.port → f.payload.length ≤ 60
    → frameRefusal f.code f.payload (s.session f.port).state = some status
    → exec i s = .next (s.answered f.port ⟨f.tag, f.code, status, .none⟩))
  ∧ (∀ (p : Agent) (code tag : Byte) (payload : List Byte) (s : State),
    s.Accepts p → payload.length ≤ 60 → codeIsCommand code = false
    → exec (.unknownCommand p code tag payload) s = .next (s.answered p ⟨tag, code, .unknownCommand, .none⟩))
  ∧ (∀ (i : Instr) (f : Frame) (s : State),
    i.frame? = some f → s.Full f.port → f.payload.length ≤ 60
    → exec i s = .next (s.setPort f.port
        { s.port f.port with transaction := (s.port f.port).transaction.settled, error := .portFull }))
  ∧ (∀ (i : Instr) (f : Frame) (s : State), i.frame? = some f → (s.port f.port).selected = true
    → ((s.port f.port).transaction = .done ∨ (s.port f.port).transaction = .ignored
        ∨ (∃ k, (s.port f.port).transaction = .sending k) ∨ ∃ k, (s.port f.port).transaction = .marker k)
    → exec i s = .next s)
  ∧ (∀ (i : Instr) (f : Frame) (s u : State), i.frame? = some f → s.live = true →
    ((s.port f.port).selected = false → (s.port f.port).transaction ≠ .idle →
      exec (.transactionEnd f.port) s = .next u → exec i s = exec i u)
    ∧ ((s.port f.port).selected = true → (s.port f.port).transaction = .idle →
      exec (.transactionStart f.port) s = .next u → exec i s = exec i u))
  ∧ ∀ (s : State) (p : Agent) (r : Response), (s.answered p r).port p =
    { s.port p with
      transaction := if (s.port p).transaction = .idle then .idle
        else if (s.port p).transaction = .ignored then .ignored else .done
      responses := (s.port p).responses ++ [r] }

/-- While REFCLK is stopped or RESET_N is low, nothing is taken: only the levels at SELn_N, RESET_N and REFCLK change
(log entry 26). REFCLK stopping and resuming change nothing but whether REFCLK runs. -/
def Obligations.SleepingPartTakesNothing : Prop :=
  (∀ s : State, s.live = false →
    (∀ i : Instr, i.outside = false → exec i s = .next s)
    ∧ (∀ p : Agent, exec (.transactionStart p) s = .next (s.setPort p { s.port p with selected := true })
      ∧ exec (.transactionEnd p) s = .next (s.setPort p { s.port p with selected := false })))
  ∧ ∀ s : State, exec .refclkStop s = .next { s with refclk := false }
    ∧ exec .refclkResume s = .next { s with refclk := true }

/-! ## Sessions and leases (chapter 2) -/

/-- OPEN on a CLOSED or EXPIRED port: the epoch rises, the session is OPEN with its lease, and every other OPEN or
CLOSING session is offered PEER_JOINED. A step count of 0 is refused BAD_ARGUMENT. -/
def Obligations.OpenStartsASession : Prop :=
  ∀ (p : Agent) (tag steps : Byte) (s : State), s.Accepts p → (s.session p).state.present = false →
    (steps ≠ 0 → exec (.openSession p tag [steps]) s = .next
      { s.answered p ⟨tag, 0x01, .ok, .opened p ((s.session p).epoch + 1)⟩ with
        sessions := Bank.build fun b =>
          if b = p then
            { s.session p with
              state := .openState
              epoch := (s.session p).epoch + 1
              lease := some ⟨10 * steps.toNat, 10 * steps.toNat⟩
              commit := .none }
          else if (s.session b).state.present then
            (s.session b).offer ⟨.peerJoined p ((s.session p).epoch + 1), s.time.cycle⟩
          else s.session b })
    ∧ (steps = 0 → exec (.openSession p tag [steps]) s = .next (s.answered p ⟨tag, 0x01, .badArgument, .none⟩))

/-- RENEW without a payload keeps the interval, and with one takes the new interval; either way lease remaining is the
interval in force. A step count of 0 is refused, and the renewal stands. -/
def Obligations.RenewKeepsOrSetsTheInterval : Prop :=
  ∀ (p : Agent) (tag steps : Byte) (l : Lease) (s : State),
    s.Accepts p → (s.session p).state.present = true → (s.session p).lease = some l →
    exec (.renew p tag []) s = .next
      { s.answered p ⟨tag, 0x03, .ok, .leaseInterval l.interval⟩ with
        sessions := s.sessions.write p { s.session p with lease := some ⟨l.interval, l.interval⟩ } }
    ∧ (steps ≠ 0 → exec (.renew p tag [steps]) s = .next
      { s.answered p ⟨tag, 0x03, .ok, .leaseInterval (10 * steps.toNat)⟩ with
        sessions := s.sessions.write p
          { s.session p with lease := some ⟨10 * steps.toNat, 10 * steps.toNat⟩ } })
    ∧ (steps = 0 → exec (.renew p tag [steps]) s = .next
      { s.answered p ⟨tag, 0x03, .badArgument, .none⟩ with
        sessions := s.sessions.write p { s.session p with lease := some ⟨l.interval, l.interval⟩ } })

/-- STATUS, in every session state: it reports, answers, renews the lease of an OPEN or CLOSING session, and changes no
other state. A STATUS with a payload is BAD_FRAME. -/
def Obligations.StatusReportsInEverySessionState : Prop :=
  ∀ (p : Agent) (tag : Byte) (s : State), s.Accepts p →
    exec (.status p tag []) s = .next (s.answered p ⟨tag, 0x04, .ok, .statusReport (s.session p).state
      (s.session p).epoch s.time.run s.time.cycle s.time.count s.ballot.slot.state s.ballot.number⟩)
    ∧ (∀ payload : List Byte, payload ≠ [] → payload.length ≤ 60 →
      exec (.status p tag payload) s = .next (s.answered p ⟨tag, 0x04, .badFrame, .none⟩))
    ∧ ((s.session p).state.present = false → (s.session p).renew = s.session p)
    ∧ (∀ l, (s.session p).state.present = true → (s.session p).lease = some l →
      (s.session p).renew = { s.session p with lease := some ⟨l.interval, l.interval⟩ })

/-- CLOSE with mode NOW tears the session down at once, in OPEN and in CLOSING; a mode that is neither NOW nor
AT_BOUNDARY is refused BAD_ARGUMENT. That the response carries the state and COMMIT_WITHDRAWN is log entry 16. -/
def Obligations.CloseNowTearsDown : Prop :=
  ∀ (p : Agent) (tag mode : Byte) (s : State), s.Accepts p → (s.session p).state.present = true →
    (mode = 0 → exec (.closeNow p tag [mode]) s = .next
      ((((s.settle p).renewLease p).tearDownNow p .closed .closed).respond p
        ⟨tag, 0x02, .ok, .closed .closed (s.session p).commit.isPending⟩))
    ∧ (2 ≤ mode.toNat → exec (.closeNow p tag [mode]) s = .next (s.answered p ⟨tag, 0x02, .badArgument, .none⟩))

/-- CLOSE with mode AT_BOUNDARY from OPEN: while the time base runs, the session becomes CLOSING, a PENDING commit is
withdrawn and the agent leaves the ballot; while it is STOPPED or ARMED, the session is torn down. -/
def Obligations.CloseAtBoundaryWaitsForTheBoundary : Prop :=
  ∀ (p : Agent) (tag : Byte) (s : State), s.Accepts p → (s.session p).state = .openState →
    (s.time.run.isRunning = true → exec (.closeAtBoundary p tag [1]) s = .next
      (((((s.settle p).renewLease p).setSession p
          { (s.session p).renew with state := .closing, commit := .none }).leaveBallot s.time.cycle p).respond p
        ⟨tag, 0x02, .ok, .closed .closing (s.session p).commit.isPending⟩))
    ∧ (s.time.run.isRunning = false → exec (.closeAtBoundary p tag [1]) s = .next
      ((((s.settle p).renewLease p).tearDownNow p .closed .closed).respond p
        ⟨tag, 0x02, .ok, .closed .closed (s.session p).commit.isPending⟩))

/-- Teardown takes back everything the agent holds, in every block, whatever the slot: lines, lists, queues and lease.
Then the agent leaves the ballot (`LeavingEndsOrNarrowsTheBallot`), which may queue BALLOT_CLOSED to sessions that
still are OPEN or CLOSING, and after that each of them is offered PEER_LEFT. Nothing else that other agents own, hold
or have queued changes. Outside a boundary, a ballot that passes in the teardown is applied after PEER_LEFT
(`ImmediateApplicationStartsAndTells`), and only while the time base is STOPPED or ARMED. -/
def Obligations.TeardownTakesBackEverything : Prop :=
  ∀ (n : Cycle) (a : Agent) (after : SessionState) (reason : LeaveReason) (s : State), after.present = false →
    (∀ bare left : State,
      bare = { s with
        driveOwner := Bank.build fun d => if s.driveOwner.read d = some a then none else s.driveOwner.read d
        senseOwner := Bank.build fun i => if s.senseOwner.read i = some a then none else s.senseOwner.read i
        drive := Bank.build fun d => if s.driveOwner.read d = some a then ⟨false, .free, none, none, 0⟩ else s.line d
        sense := Bank.build fun i =>
          if s.senseOwner.read i = some a then { s.senseLine i with armed := false, counter := 0 } else s.senseLine i
        sessions := s.sessions.write a
          ⟨after, (s.session a).epoch, none, .none, [], [], none, [], 0, Bank.fill 8 0, 0, false, [], 0, none⟩ }
      → left = bare.leaveBallot n a
      → s.tearDown n a after reason = { left with
          sessions := Bank.build fun b =>
            if (left.session b).state.present then
              (left.session b).offer ⟨.peerLeft a (s.session a).epoch reason, n⟩
            else left.session b }
        ∧ left.session a = bare.session a)
    ∧ ((∀ b, s.ballot.slot ≠ .openSlot b) → s.tearDown n a after reason =
      { s with
        driveOwner := Bank.build fun d => if s.driveOwner.read d = some a then none else s.driveOwner.read d
        senseOwner := Bank.build fun i => if s.senseOwner.read i = some a then none else s.senseOwner.read i
        drive := Bank.build fun d => if s.driveOwner.read d = some a then ⟨false, .free, none, none, 0⟩ else s.line d
        sense := Bank.build fun i =>
          if s.senseOwner.read i = some a then { s.senseLine i with armed := false, counter := 0 } else s.senseLine i
        sessions := Bank.build fun b =>
          if b = a then
            ⟨after, (s.session a).epoch, none, .none, [], [], none, [], 0, Bank.fill 8 0, 0, false, [], 0, none⟩
          else if (s.session b).state.present then
            (s.session b).offer ⟨.peerLeft a (s.session a).epoch reason, n⟩
          else s.session b })
    ∧ s.tearDownNow a after reason = (s.tearDown s.time.cycle a after reason).applyIfIdle
    ∧ (s.time.run.isRunning = true → s.tearDownNow a after reason = s.tearDown s.time.cycle a after reason)
    ∧ (s.time.run.isRunning = false →
      (∀ b, s.ballot.slot = .openSlot b → b.proposer ≠ a → b.electorate.read a = true →
        b.accepted.write a false = b.electorate.write a false →
        (s.tearDownNow a after reason).settings = s.settings.updated b.proposal
        ∧ (s.tearDownNow a after reason).ballot = ⟨s.ballot.number, .empty, some ⟨s.ballot.number, .passed⟩⟩)
      ∧ ((∀ b q, (s.tearDown s.time.cycle a after reason).ballot.slot ≠ .passed b q) →
        s.tearDownNow a after reason = s.tearDown s.time.cycle a after reason))

/-- What an agent's leaving does (R146): a proposer's OPEN ballot fails with PROPOSER_GONE, an elector leaves the
electorate and the accepted set and the ballot passes if the two are then equal, and any other leaving has no effect. A
ballot that closes queues BALLOT_CLOSED to the proposer and the electors left that are OPEN or CLOSING (R147). Nothing
else changes. -/
def Obligations.LeavingEndsOrNarrowsTheBallot : Prop :=
  ∀ (n : Cycle) (a : Agent) (s : State),
    (∀ b, s.ballot.slot = .openSlot b → b.proposer = a → s.leaveBallot n a =
      { s with
        ballot := ⟨s.ballot.number, .empty, some ⟨s.ballot.number, .failed .proposerGone⟩⟩
        sessions := Bank.build fun c =>
          if (c = b.proposer ∨ b.electorate.read c = true) ∧ (s.session c).state.present = true then
            (s.session c).offer ⟨.ballotClosed s.ballot.number (.failed .proposerGone), n⟩
          else s.session c })
    ∧ (∀ b, s.ballot.slot = .openSlot b → b.proposer ≠ a → b.electorate.read a = true →
      (b.accepted.write a false = b.electorate.write a false → s.leaveBallot n a =
        { s with
          ballot := ⟨s.ballot.number, .passed b.proposer b.proposal, some ⟨s.ballot.number, .passed⟩⟩
          sessions := Bank.build fun c =>
            if (c = b.proposer ∨ (c ≠ a ∧ b.electorate.read c = true)) ∧ (s.session c).state.present = true then
              (s.session c).offer ⟨.ballotClosed s.ballot.number .passed, n⟩
            else s.session c })
      ∧ (b.accepted.write a false ≠ b.electorate.write a false → s.leaveBallot n a =
        { s with
          ballot := { s.ballot with slot := .openSlot { b with
              electorate := b.electorate.write a false
              accepted := b.accepted.write a false } } }))
    ∧ (∀ b, s.ballot.slot = .openSlot b → b.proposer ≠ a → b.electorate.read a = false → s.leaveBallot n a = s)
    ∧ ((∀ b, s.ballot.slot ≠ .openSlot b) → s.leaveBallot n a = s)

/-- PORT_RESET, as a row and as the byte C3H in the transaction byte's place: the port's queue and error are cleared, an
OPEN or CLOSING session is torn down with reason PORT_RESET, and any other becomes CLOSED with its epoch kept. -/
def Obligations.PortResetClearsPortAndSession : Prop :=
  ∀ (p : Agent) (s : State), s.live = true → (s.port p).transaction = .command → (s.port p).selected = true →
    ((s.session p).state.present = true → exec (.portReset p) s = .next
      ((s.setPort p ⟨(s.port p).selected, .done, [], .none, some 0⟩).tearDownNow p .closed .portReset))
    ∧ ((s.session p).state.present = false → exec (.portReset p) s = .next
      ((s.setPort p ⟨(s.port p).selected, .done, [], .none, some 0⟩).setSession p
        { s.session p with state := .closed, lease := none, commit := .none }))
    ∧ exec (.byteShifted p 0xC3) s = exec (.portReset p) s

/-- The lease expiry of a session whose lease has run out tears it down with reason EXPIRED. The deadline expiry of an
OPEN ballot whose deadline has run out fails it with reason DEADLINE. Where neither stands at 0, the row only stands no
longer (log entry 10). -/
def Obligations.ExpiriesEndSessionsAndBallots : Prop :=
  (∀ (a : Agent) (s : State), s.live = true →
    ((s.session a).leaseOut = true → exec (.leaseExpiry a) s = .next
      (({ s with arisen := s.arisen.filter fun e => e != Event.leaseExpiry a }).tearDownNow a .expired .expired))
    ∧ ((s.session a).leaseOut = false → exec (.leaseExpiry a) s = .next
      { s with arisen := s.arisen.filter fun e => e != Event.leaseExpiry a })
    ∧ ((s.session a).leaseOut = true ↔
      (s.session a).state.present = true ∧ ∃ l, (s.session a).lease = some l ∧ l.remaining = 0))
  ∧ ∀ s : State, s.live = true →
    (∀ b, s.ballot.slot = .openSlot b → b.deadline = 0 → exec .deadlineExpiry s = .next
      { s with
        arisen := s.arisen.filter fun e => e != Event.deadlineExpiry
        ballot := ⟨s.ballot.number, .empty, some ⟨s.ballot.number, .failed .deadline⟩⟩
        sessions := Bank.build fun a =>
          if (a = b.proposer ∨ b.electorate.read a = true) ∧ (s.session a).state.present = true then
            (s.session a).offer ⟨.ballotClosed s.ballot.number (.failed .deadline), s.time.cycle⟩
          else s.session a })
    ∧ (s.deadlineOut = false → exec .deadlineExpiry s = .next
      { s with arisen := s.arisen.filter fun e => e != Event.deadlineExpiry })

/-- A lease clock advance lowers every running lease and the deadline of an OPEN ballot by 1 ms. Expiries of an earlier
advance that still stand are taken first (log entry 5), and the lease phase is set to 0 (log entry 7). -/
def Obligations.LeaseClockAdvanceLowersLeases : Prop :=
  (∀ s : State, s.live = true → exec .leaseClockAdvance s = .next
    (({ s with arisen := s.arisen.filter fun e => e != Event.leaseClockAdvance }).takeExpiries.lowerLeases))
  ∧ ∀ s : State, s.live = true → s.expiries = [] → exec .leaseClockAdvance s = .next
    { s with
      time := { s.time with leasePhase := 0 }
      sessions := Bank.build fun a =>
        if (s.session a).state.present then
          { s.session a with lease := (s.session a).lease.map fun l => ⟨l.interval, l.remaining - 1⟩ }
        else s.session a
      ballot := match s.ballot.slot with
        | .openSlot b => { s.ballot with slot := .openSlot { b with deadline := b.deadline - 1 } }
        | _ => s.ballot
      arisen := s.arisen.filter fun e => e != Event.leaseClockAdvance }

/-! ## Line ownership (chapter 3) -/

/-- RESERVE acts on its expanded set: the drive lines its payload names, the partner of each that is of an interlocked
pair, and the sense lines it names (R40). It is refused whole, LINE_TAKEN with the lines of the set that other agents
own, or else BALLOT_LOCK with its drive lines in the ballot lock set and the ballot number. An accepted RESERVE makes
every line of the set the agent's. A sense line newly taken has its reset setup, is DISARMED and has its capture path
reloaded from its last sample, which absorbs an edge not yet taken (log entry 11); nothing changes on a line the agent
had already. -/
def Obligations.ReserveTakesAllOrNothing : Prop :=
  ∀ (p : Agent) (tag b0 b1 b2 : Byte) (x : LineSets) (s : State),
    s.Accepts p → (s.session p).state = .openState
    → (∀ d : Drive, x.drives.read d = ((b0 ++ b1 : Half).getLsbD d.val
        || (interlocked s.settings d && (b0 ++ b1 : Half).getLsbD (partner d).val)))
    → (∀ i : Sense, x.senses.read i = b2.getLsbD i.val)
    → ((∃ d a, x.drives.read d = true ∧ s.driveOwner.read d = some a ∧ a ≠ p)
        ∨ (∃ i a, x.senses.read i = true ∧ s.senseOwner.read i = some a ∧ a ≠ p) →
      exec (.reserve p tag [b0, b1, b2]) s = .next (s.answered p ⟨tag, 0x05, .lineTaken, .lines
        ⟨Bank.build fun d => x.drives.read d && (s.driveOwner.read d != none && s.driveOwner.read d != some p),
          Bank.build fun i => x.senses.read i && (s.senseOwner.read i != none && s.senseOwner.read i != some p)⟩⟩))
    ∧ ((∀ d, x.drives.read d = true → s.driveOwner.read d = none ∨ s.driveOwner.read d = some p)
      → (∀ i, x.senses.read i = true → s.senseOwner.read i = none ∨ s.senseOwner.read i = some p)
      → ((∃ d, x.drives.read d = true ∧ s.lockSet.read d = true)
        → exec (.reserve p tag [b0, b1, b2]) s = .next (s.answered p ⟨tag, 0x05, .ballotLock, .locked
          (Bank.build fun d => x.drives.read d && s.lockSet.read d) s.ballot.number⟩))
      ∧ ((∀ d, x.drives.read d = true → s.lockSet.read d = false)
        → exec (.reserve p tag [b0, b1, b2]) s = .next
          { s.answered p ⟨tag, 0x05, .ok, .ownership
              ⟨Bank.build fun d => x.drives.read d && s.driveOwner.read d == none,
                Bank.build fun i => x.senses.read i && s.senseOwner.read i == none⟩
              ⟨Bank.build fun d => x.drives.read d || s.driveOwner.read d == some p,
                Bank.build fun i => x.senses.read i || s.senseOwner.read i == some p⟩⟩ with
            driveOwner := Bank.build fun d => if x.drives.read d then some p else s.driveOwner.read d
            senseOwner := Bank.build fun i => if x.senses.read i then some p else s.senseOwner.read i
            sense := Bank.build fun i =>
              if x.senses.read i && s.senseOwner.read i == none then
                ⟨.rising, 1, 0, 0, ⟨(s.senseLine i).sample, 0⟩, false, (s.senseLine i).sample⟩
              else s.senseLine i
            arisen := s.arisen.filter fun e =>
              !((List.finRange 8).any fun i => (x.senses.read i && s.senseOwner.read i == none) && e.isEdgeOf i) }))

/-- RELEASE acts on its expanded set (R40): refused LINE_NOT_OWNED if a line of the set is not the agent's, else
LINE_IN_USE if an entry of the agent names one; otherwise every line becomes unowned, drive lines come to the unowned
condition and sense lines are DISARMED with counter 0. -/
def Obligations.ReleaseGivesLinesBack : Prop :=
  ∀ (p : Agent) (tag b0 b1 b2 : Byte) (x foreign used : LineSets) (s : State),
    s.Accepts p → (s.session p).state = .openState
    → (∀ d : Drive, x.drives.read d = ((b0 ++ b1 : Half).getLsbD d.val
        || (interlocked s.settings d && (b0 ++ b1 : Half).getLsbD (partner d).val)))
    → (∀ i : Sense, x.senses.read i = b2.getLsbD i.val)
    → foreign = ⟨Bank.build fun d => x.drives.read d && !(s.driveOwner.read d == some p),
        Bank.build fun i => x.senses.read i && !(s.senseOwner.read i == some p)⟩
    → used = ⟨Bank.build fun d => x.drives.read d && (s.session p).names (.drive d),
        Bank.build fun i => x.senses.read i && (s.session p).names (.sense i)⟩
    → (foreign.isEmpty = false → exec (.release p tag [b0, b1, b2]) s =
        .next (s.answered p ⟨tag, 0x06, .lineNotOwned, .lines foreign⟩))
      ∧ (foreign.isEmpty = true → used.isEmpty = false → exec (.release p tag [b0, b1, b2]) s =
        .next (s.answered p ⟨tag, 0x06, .lineInUse, .lines used⟩))
      ∧ (foreign.isEmpty = true → used.isEmpty = true → exec (.release p tag [b0, b1, b2]) s = .next
        { s.answered p ⟨tag, 0x06, .ok, .ownership x
            ⟨Bank.build fun d => !x.drives.read d && s.driveOwner.read d == some p,
              Bank.build fun i => !x.senses.read i && s.senseOwner.read i == some p⟩⟩ with
          driveOwner := Bank.build fun d => if x.drives.read d then none else s.driveOwner.read d
          senseOwner := Bank.build fun i => if x.senses.read i then none else s.senseOwner.read i
          drive := Bank.build fun d => if x.drives.read d then ⟨false, .free, none, none, 0⟩ else s.line d
          sense := Bank.build fun i =>
            if x.senses.read i then { s.senseLine i with armed := false, counter := 0 } else s.senseLine i })

/-! ## Staging (chapter 4) -/

/-- The checks of STAGE_ENTRY in the order of R65, each with its status and response data; a refused one leaves the
list as it was. One that passes them adds the entry under the lowest handle the staging list does not hold, and changes
nothing else. -/
def Obligations.StageEntryAddsOrIsRefused : Prop :=
  (∀ (p : Agent) (tag : Byte) (payload : List Byte) (t : Target) (f : EntryFields) (s : State),
    s.Accepts p → (s.session p).state = .openState → payload.length = 9 → (s.session p).commit = .none
    → (stageOf payload = none →
        exec (.stageEntry p tag payload) s = .next (s.answered p ⟨tag, 0x07, .badArgument, .none⟩))
      ∧ (stageOf payload = some (t, f) → s.ownsTarget p t = false →
        exec (.stageEntry p tag payload) s = .next (s.answered p ⟨tag, 0x07, .lineNotOwned, .lineOf t⟩))
      ∧ (∀ limit, stageOf payload = some (t, f) → s.ownsTarget p t = true → s.refusingPeriod f.offset = some limit →
        exec (.stageEntry p tag payload) s = .next (s.answered p ⟨tag, 0x07, .offsetRange, .offsetRefused limit⟩))
      ∧ (∀ e, stageOf payload = some (t, f) → s.ownsTarget p t = true → s.refusingPeriod f.offset = none →
        entryAt (s.session p).staging t f.offset none = some e →
        exec (.stageEntry p tag payload) s = .next (s.answered p ⟨tag, 0x07, .duplicate, .handleOnly e.handle⟩))
      ∧ (stageOf payload = some (t, f) → s.ownsTarget p t = true → s.refusingPeriod f.offset = none →
        entryAt (s.session p).staging t f.offset none = none →
        (s.bound p).limit ≤ (s.session p).staging.length →
        exec (.stageEntry p tag payload) s = .next (s.answered p ⟨tag, 0x07, .quotaFull,
          .quotaFull (s.bound p) (s.session p).staging.length⟩)))
  ∧ ∀ (p : Agent) (tag : Byte) (payload : List Byte) (t : Target) (f : EntryFields) (s : State),
    s.Accepts p → (s.session p).state = .openState → payload.length = 9 → (s.session p).commit = .none
    → stageOf payload = some (t, f) → s.ownsTarget p t = true → s.refusingPeriod f.offset = none
    → (∀ e ∈ (s.session p).staging, ¬ (e.target = t ∧ e.offset = f.offset))
    → (s.session p).staging.length < (s.bound p).limit → (s.session p).staging.length < 128
    → ∃ h : Nat, h < 128 ∧ (∀ e ∈ (s.session p).staging, e.handle ≠ h)
      ∧ (∀ k, k < h → ∃ e ∈ (s.session p).staging, e.handle = k)
      ∧ exec (.stageEntry p tag payload) s = .next
        ((s.answered p ⟨tag, 0x07, .ok, .staged h ((s.session p).staging.length + 1) (s.bound p).limit⟩).setStaging p
          (insertEntry ⟨h, t, f.action, f.offset, f.cadence⟩ (s.session p).staging))

/-- The periods of R57 and the bound of R63, in full. -/
def Obligations.StandingBallotNarrowsOffsetsAndBounds : Prop :=
  ∀ (a : Agent) (offset : Nat) (s : State),
    (s.settings.period ≤ offset → s.refusingPeriod offset = some ⟨s.settings.period, none⟩)
    ∧ (offset < s.settings.period → s.ballot.slot.proposal? = none → s.refusingPeriod offset = none)
    ∧ (∀ q, offset < s.settings.period → s.ballot.slot.proposal? = some q →
      s.refusingPeriod offset = (match q.period with
        | none => none
        | some k => if k ≤ offset then some ⟨k, some s.ballot.number⟩ else none))
    ∧ (s.ballot.slot.proposal? = none → s.bound a = ⟨s.settings.quota.read a, none⟩)
    ∧ (∀ q, s.ballot.slot.proposal? = some q →
      s.bound a = (match q.quota.read a with
        | none => ⟨s.settings.quota.read a, none⟩
        | some k => if k < s.settings.quota.read a then ⟨k, some s.ballot.number⟩
          else ⟨s.settings.quota.read a, none⟩))

/-- AMEND_ENTRY replaces action, offset and cadence of the entry under its handle, which keeps its handle and target;
the checks of R67 refuse in their order. -/
def Obligations.AmendEntryReplacesFields : Prop :=
  ∀ (p : Agent) (tag : Byte) (payload : List Byte) (h : Nat) (f : EntryFields) (s : State),
    s.Accepts p → (s.session p).state = .openState → payload.length = 9 → (s.session p).commit = .none
    → (handleOf (byteAt payload 0) = none ∨ entryFieldsOf payload = none →
        exec (.amendEntry p tag payload) s = .next (s.answered p ⟨tag, 0x08, .badArgument, .none⟩))
      ∧ (handleOf (byteAt payload 0) = some h → entryFieldsOf payload = some f →
        (entryUnder (s.session p).staging h = none →
          exec (.amendEntry p tag payload) s = .next (s.answered p ⟨tag, 0x08, .noSuchHandle, .none⟩))
        ∧ ∀ e, entryUnder (s.session p).staging h = some e →
          (f.action.suits e.target = false →
            exec (.amendEntry p tag payload) s = .next (s.answered p ⟨tag, 0x08, .badArgument, .none⟩))
          ∧ (f.action.suits e.target = true →
            (∀ limit, s.refusingPeriod f.offset = some limit → exec (.amendEntry p tag payload) s =
              .next (s.answered p ⟨tag, 0x08, .offsetRange, .offsetRefused limit⟩))
            ∧ (s.refusingPeriod f.offset = none →
              (∀ e', entryAt (s.session p).staging e.target f.offset (some h) = some e' →
                exec (.amendEntry p tag payload) s =
                  .next (s.answered p ⟨tag, 0x08, .duplicate, .handleOnly e'.handle⟩))
              ∧ (entryAt (s.session p).staging e.target f.offset (some h) = none →
                exec (.amendEntry p tag payload) s =
                  .next ((s.answered p ⟨tag, 0x08, .ok, .handleOnly h⟩).setStaging p
                    ((s.session p).staging.map fun x =>
                      if x.handle = h then ⟨x.handle, x.target, f.action, f.offset, f.cadence⟩ else x))))))

/-- WITHDRAW_ENTRY removes the entry under its handle and returns its fields, or answers BAD_ARGUMENT or
NO_SUCH_HANDLE. CLEAR_STAGING empties the list, an empty one too, unless a commit is PENDING. Nothing else changes, and
an empty list passes every check of a commit. -/
def Obligations.WithdrawAndClearRemoveEntries : Prop :=
  (∀ (p : Agent) (tag h : Byte) (s : State),
    s.Accepts p → (s.session p).state = .openState → (s.session p).commit = .none
    → (128 ≤ h.toNat → exec (.withdrawEntry p tag [h]) s = .next (s.answered p ⟨tag, 0x09, .badArgument, .none⟩))
      ∧ (h.toNat < 128 → entryUnder (s.session p).staging h.toNat = none →
        exec (.withdrawEntry p tag [h]) s = .next (s.answered p ⟨tag, 0x09, .noSuchHandle, .none⟩))
      ∧ (∀ e, h.toNat < 128 → entryUnder (s.session p).staging h.toNat = some e →
        exec (.withdrawEntry p tag [h]) s =
          .next ((s.answered p ⟨tag, 0x09, .ok, .entryWithdrawn e
              ((s.session p).staging.filter fun x => x.handle != h.toNat).length⟩).setStaging p
            ((s.session p).staging.filter fun x => x.handle != h.toNat))))
  ∧ ∀ (p : Agent) (tag : Byte) (s : State), s.Accepts p → (s.session p).state = .openState →
    ((s.session p).commit = .none → exec (.clearStaging p tag []) s =
      .next ((s.answered p ⟨tag, 0x0A, .ok, .removed (s.session p).staging.length⟩).setStaging p []))
    ∧ (∀ c, (s.session p).commit = .pending c → exec (.clearStaging p tag []) s =
      .next (s.answered p ⟨tag, 0x0A, .stagingFrozen, .none⟩))
    ∧ (s.validate p [] = none)

/-- While its commit is PENDING, an agent's staging list is frozen: the four editing commands are refused STAGING_FROZEN
and change nothing. -/
def Obligations.PendingCommitFreezesStaging : Prop :=
  ∀ (p : Agent) (tag : Byte) (payload : List Byte) (c : Cycle) (s : State),
    s.Accepts p → (s.session p).state = .openState → (s.session p).commit = .pending c →
    (payload.length = 9 → exec (.stageEntry p tag payload) s =
      .next (s.answered p ⟨tag, 0x07, .stagingFrozen, .none⟩))
    ∧ (payload.length = 9 → exec (.amendEntry p tag payload) s =
      .next (s.answered p ⟨tag, 0x08, .stagingFrozen, .none⟩))
    ∧ (payload.length = 1 → exec (.withdrawEntry p tag payload) s =
      .next (s.answered p ⟨tag, 0x09, .stagingFrozen, .none⟩))
    ∧ (payload.length = 0 → exec (.clearStaging p tag payload) s =
      .next (s.answered p ⟨tag, 0x0A, .stagingFrozen, .none⟩))

/-- The reads that change nothing but the lease: READ_STAGED and READ_ACTIVE by pages of five, READ_SETTINGS and
READ_BALLOT whole. -/
def Obligations.ReadsReportAndChangeNothing : Prop :=
  ∀ (p : Agent) (tag : Byte) (s : State), s.Accepts p →
    (∀ start : Byte, (s.session p).state.present = true → start.toNat < 128 →
      exec (.readStaged p tag [start]) s = .next (s.answered p ⟨tag, 0x0B, .ok, .stagedPage (s.session p).commit
        (s.session p).staging.length (s.bound p)
        (((((s.session p).staging.filter fun e => start.toNat ≤ e.handle).drop 5).head?).map fun e => e.handle)
        (((s.session p).staging.filter fun e => start.toNat ≤ e.handle).take 5)⟩))
    ∧ (∀ start : Byte, (s.session p).state.present = true → 128 ≤ start.toNat →
      exec (.readStaged p tag [start]) s = .next (s.answered p ⟨tag, 0x0B, .badArgument, .none⟩))
    ∧ (∀ (a : Agent) (start : Byte), (s.session p).state.present = true → start.toNat < 128 →
      exec (.readActive p tag [byte a.val, start]) s = .next (s.answered p ⟨tag, 0x0C, .ok, .activePage a
        (s.session a).active.length (s.session a).applied
        (((((s.session a).active.filter fun e => start.toNat ≤ e.handle).drop 5).head?).map fun e => e.handle)
        (((s.session a).active.filter fun e => start.toNat ≤ e.handle).take 5)⟩))
    ∧ (∀ agent start : Byte, (s.session p).state.present = true → (4 ≤ agent.toNat ∨ 128 ≤ start.toNat) →
      exec (.readActive p tag [agent, start]) s = .next (s.answered p ⟨tag, 0x0C, .badArgument, .none⟩))
    ∧ ((s.session p).state.present = true →
      exec (.readSettings p tag []) s = .next (s.answered p ⟨tag, 0x18, .ok,
        .settings s.settings (if s.time.run = .stopped then .stop else .run)⟩))
    ∧ ((s.session p).state = .openState →
      exec (.readBallot p tag []) s = .next (s.answered p ⟨tag, 0x19, .ok, .ballot s.ballot⟩))

/-! ## Commit (chapter 5) -/

/-- A COMMIT that passes validation becomes PENDING in RUNNING and HELD, keeping its cycle; in STOPPED and ARMED the
list is exchanged at once with the cycle number as it stands, and COMMIT_APPLIED is offered to the agent. -/
def Obligations.CommitWaitsOrIsAppliedByRunState : Prop :=
  ∀ (p : Agent) (tag : Byte) (s : State),
    s.Accepts p → (s.session p).state = .openState → (s.session p).commit = .none
    → s.validate p (s.session p).staging = none
    → ((s.time.run = .running ∨ s.time.run = .held) → exec (.commit p tag []) s = .next
        ((s.answered p ⟨tag, 0x0D, .pending, .committed s.time.cycle (s.session p).staging.length⟩).setSession p
          { (s.session p).renew with commit := .pending s.time.cycle }))
      ∧ ((s.time.run = .stopped ∨ s.time.run = .armed) → exec (.commit p tag []) s = .next
        ((s.answered p ⟨tag, 0x0D, .applied, .committed s.time.cycle (s.session p).staging.length⟩).setSession p
          (({ (s.session p).renew with
              active := (s.session p).staging
              applied := some s.time.cycle }).offer
            ⟨.commitApplied (s.session p).staging.length .immediate, s.time.cycle⟩)))

/-- A COMMIT is refused COMMIT_PENDING with the cycle of the pending one, or INVALID_ENTRY with the first failure of
validation: the count against the bound, or the first entry of the list whose line, offset or interlock partner fails.
A refused COMMIT changes nothing. -/
def Obligations.CommitRefusalsChangeNothing : Prop :=
  ∀ (p : Agent) (tag : Byte) (s : State), s.Accepts p → (s.session p).state = .openState →
    (∀ c, (s.session p).commit = .pending c → exec (.commit p tag []) s =
      .next (s.answered p ⟨tag, 0x0D, .commitPending, .takenCycle c⟩))
    ∧ (∀ fault, (s.session p).commit = .none → s.validate p (s.session p).staging = some fault →
      exec (.commit p tag []) s = .next (s.answered p ⟨tag, 0x0D, .invalidEntry, .entryFault fault⟩))
    ∧ ((s.bound p).limit < (s.session p).staging.length →
      s.validate p (s.session p).staging = some (.quota (s.bound p) (s.session p).staging.length))
    ∧ (∀ (before after : List Entry) (e : Entry), (s.session p).staging.length ≤ (s.bound p).limit →
      (s.session p).staging = before ++ e :: after → (∀ x ∈ before, s.entryFault p (s.session p).staging x = none) →
      (s.ownsTarget p e.target = false →
        s.validate p (s.session p).staging = some (.lineNotOwned e.handle e.target))
      ∧ (∀ limit, s.ownsTarget p e.target = true → s.refusingPeriod e.offset = some limit →
        s.validate p (s.session p).staging = some (.offsetRange e.handle limit))
      ∧ (∀ d y, s.ownsTarget p e.target = true → s.refusingPeriod e.offset = none → e.target = .drive d →
        e.action.assertCapable = true → interlocked s.settings d = true →
        (s.session p).staging.find? (fun x => x.target == .drive (partner d) && x.offset == e.offset
          && x.action.assertCapable) = some y →
        s.validate p (s.session p).staging = some (.interlock e.handle y.handle)))

/-- ABANDON withdraws a PENDING commit and leaves the list and the active part as they are; with no commit PENDING it
answers NOTHING_PENDING with the applied cycle, and changes nothing. -/
def Obligations.AbandonWithdrawsThePendingCommit : Prop :=
  ∀ (p : Agent) (tag : Byte) (s : State), s.Accepts p → (s.session p).state = .openState →
    (∀ c, (s.session p).commit = .pending c → exec (.abandon p tag []) s =
      .next ((s.answered p ⟨tag, 0x0E, .ok,
          .abandoned c (s.session p).staging.length (s.session p).applied⟩).setSession p
        { (s.session p).renew with commit := .none }))
    ∧ ((s.session p).commit = .none → exec (.abandon p tag []) s =
      .next (s.answered p ⟨tag, 0x0E, .nothingPending, .appliedCycle (s.session p).applied⟩))

/-! ## Drive lines (chapter 6) -/

/-- FORCE_LINE holds an owned line at a level. ASSERTED is refused INTERLOCK, with the partner's state, on a blocked
line that is not forced asserted already; DEASSERTED makes a guarded deassert; either cancels a pulse end and a
deferral when it is accepted, and repeating the present forcing changes nothing. That the refusal INTERLOCK keeps a
deferral, one due to lapse too, is log entry 33. UNFORCE_LINE: a line forced asserted makes a guarded deassert, a line
forced deasserted keeps its guard, an unforced line does not change. The response carries the line report, of the
partner as well whoever owns it (log entry 30), and for UNFORCE_LINE WAS_FORCED. Only the line named changes. A line
number above 15, another level and a line the agent does not own are refused. -/
def Obligations.ForcingHoldsAndReturnsALine : Prop :=
  (∀ (p : Agent) (tag : Byte) (s : State), s.Accepts p → (s.session p).state = .openState →
    (∀ (d : Drive) (level : Bool) (l' : DriveLine), s.driveOwner.read d = some p
      → (level = true → (s.line d).forcing = .forcedAsserted → l' = s.line d)
      → (level = true → (s.line d).forcing ≠ .forcedAsserted → l' = ⟨true, .forcedAsserted, none, none, 0⟩)
      → (level = false → (s.line d).forcing = .forcedDeasserted → l' = s.line d)
      → (level = false → (s.line d).forcing ≠ .forcedDeasserted → l' = ⟨false, .forcedDeasserted, none, none,
          if (s.line d).asserted && interlocked s.settings d then guardOf s.settings d
          else (s.line d).guardRemaining⟩)
      → (level = true → (s.line d).forcing ≠ .forcedAsserted → interlocked s.settings d = true →
          ((s.line (partner d)).asserted = true ∨ 0 < (s.line (partner d)).guardRemaining) →
          exec (.forceLine p tag [byte d.val, flagByte level]) s = .next (s.answered p ⟨tag, 0x0F, .interlock,
            .partnerBlocks (partner d) (s.line (partner d)).asserted (s.line (partner d)).forcing
              (s.line (partner d)).guardRemaining⟩))
        ∧ ((level = false ∨ (s.line d).forcing = .forcedAsserted ∨ interlocked s.settings d = false
            ∨ ((s.line (partner d)).asserted = false ∧ (s.line (partner d)).guardRemaining = 0)) →
          exec (.forceLine p tag [byte d.val, flagByte level]) s = .next
            ((s.answered p ⟨tag, 0x0F, .ok, .lineReport ⟨l', s.settings.pairSetup.read (pairOf d)⟩
              ⟨s.line (partner d), s.settings.pairSetup.read (pairOf d)⟩⟩).setLine d l')))
    ∧ (∀ (d : Drive) (level : Bool), s.driveOwner.read d ≠ some p →
      exec (.forceLine p tag [byte d.val, flagByte level]) s =
        .next (s.answered p ⟨tag, 0x0F, .lineNotOwned, .lineOf (.drive d)⟩))
    ∧ (∀ b v : Byte, (16 ≤ b.toNat ∨ 2 ≤ v.toNat) → exec (.forceLine p tag [b, v]) s =
      .next (s.answered p ⟨tag, 0x0F, .badArgument, .none⟩)))
  ∧ ∀ (p : Agent) (tag : Byte) (s : State), s.Accepts p → (s.session p).state = .openState →
    (∀ (d : Drive) (l' : DriveLine), s.driveOwner.read d = some p →
      ((s.line d).forcing = .forcedAsserted → (s.line d).asserted = true → l' = { s.line d with
          forcing := .free
          asserted := false
          pulseEnd := none
          guardRemaining := if interlocked s.settings d then guardOf s.settings d else (s.line d).guardRemaining }) →
      ((s.line d).forcing = .forcedAsserted → (s.line d).asserted = false → l' = { s.line d with forcing := .free }) →
      ((s.line d).forcing = .forcedDeasserted → l' = { s.line d with forcing := .free }) →
      ((s.line d).forcing = .free → l' = s.line d) →
      exec (.unforceLine p tag [byte d.val]) s = .next
        ((s.answered p ⟨tag, 0x10, .ok, .unforced ⟨l', s.settings.pairSetup.read (pairOf d)⟩
          ⟨s.line (partner d), s.settings.pairSetup.read (pairOf d)⟩ ((s.line d).forcing != .free)⟩).setLine d l'))
    ∧ (∀ d : Drive, s.driveOwner.read d ≠ some p → exec (.unforceLine p tag [byte d.val]) s =
      .next (s.answered p ⟨tag, 0x10, .lineNotOwned, .none⟩))
    ∧ (∀ b : Byte, 16 ≤ b.toNat → exec (.unforceLine p tag [b]) s =
      .next (s.answered p ⟨tag, 0x10, .badArgument, .none⟩))

/-- A due entry on an unforced line, by its action and the line's state (R102 to R105): an assert-capable action
asserts a line that is not blocked and defers on one that is; on an ASSERTED line it never deasserts but by TOGGLE or
DEASSERT. On a forced line nothing changes (R101). A line is blocked when its pair is interlocked and its partner is
ASSERTED or in guard (R99), and the pair of D2k and D2k+1 is pair k. A line's pin is at its idle level while the line
is DEASSERTED and at the other level while it is ASSERTED, and an unowned line's pin is at its idle level (R49). -/
def Obligations.DueActionsAndPinsFollowTheTables : Prop :=
  (∀ (st : Settings) (lines : Bank DriveLine 16) (d : Drive),
    (blocked st lines d = true ↔ (st.pairSetup.read (pairOf d)).interlock = true
      ∧ ((lines.read (partner d)).asserted = true ∨ 0 < (lines.read (partner d)).guardRemaining))
    ∧ (interlocked st d = true ↔ (st.pairSetup.read (pairOf d)).interlock = true)
    ∧ guardOf st d = (st.pairSetup.read (pairOf d)).guard
    ∧ (pairOf d).val = d.val / 2
    ∧ (partner d).val = if d.val % 2 = 0 then d.val + 1 else d.val - 1)
  ∧ (∀ (s : State) (d : Drive),
    ((s.line d).asserted = false → s.settings.idleLevel.read d = .low → s.pin d = .low)
    ∧ ((s.line d).asserted = false → s.settings.idleLevel.read d = .high → s.pin d = .high)
    ∧ ((s.line d).asserted = true → s.settings.idleLevel.read d = .low → s.pin d = .high)
    ∧ ((s.line d).asserted = true → s.settings.idleLevel.read d = .high → s.pin d = .low)
    ∧ (Coherent s → s.driveOwner.read d = none → s.pin d = s.settings.idleLevel.read d))
  ∧ ∀ (st : Settings) (d : Drive) (blocks : Bool) (cycle : Cycle) (w : Nat) (l : DriveLine),
    (l.forcing ≠ .free → ∀ act, l.serve st d blocks cycle act = l)
    ∧ (l.forcing = .free → l.asserted = true →
      l.serve st d blocks cycle .assert = { l with pulseEnd := none }
      ∧ l.serve st d blocks cycle (.pulse w) = { l with pulseEnd := some w }
      ∧ (∀ act, (act = .deassert ∨ act = .toggle) → l.serve st d blocks cycle act =
        { l with
          asserted := false
          pulseEnd := none
          guardRemaining := if interlocked st d then guardOf st d else l.guardRemaining }))
    ∧ (l.forcing = .free → l.asserted = false →
      l.serve st d blocks cycle .deassert = { l with deferred := none }
      ∧ (l.deferred ≠ none → l.serve st d blocks cycle .toggle = { l with deferred := none })
      ∧ (l.deferred = none → l.serve st d blocks cycle .toggle = l.serve st d blocks cycle .assert)
      ∧ l.serve st d false cycle .assert = { l with asserted := true, guardRemaining := 0, deferred := none }
      ∧ l.serve st d false cycle (.pulse w) =
        { l with asserted := true, guardRemaining := 0, pulseEnd := some w, deferred := none }
      ∧ (l.deferred = none →
        l.serve st d true cycle .assert = { l with deferred := some ⟨.assert, cycle⟩ }
        ∧ l.serve st d true cycle (.pulse w) = { l with deferred := some ⟨.pulse w, cycle⟩ })
      ∧ (∀ x, l.deferred = some x →
        l.serve st d true cycle .assert = { l with deferred := some ⟨.assert, x.cycle⟩ }
        ∧ l.serve st d true cycle (.pulse w) = { l with deferred := some ⟨.pulse w, x.cycle⟩ }))

/-- The countdown of a count advance, in full (R106, R107): every guard and pulse end is lowered, a pulse that ends
makes a guarded deassert, and then, in ascending line order, a deferred assert on a line that is not blocked is taken,
with INTERLOCK_RESOLVED, outcome TAKEN, to the owner of the line. Part 5 of a boundary, in full (R108): a deferred
assert not made in the ending cycle lapses, with outcome LAPSED. Nothing else changes. `CountAdvanceCountsAndServes`
and `IsBoundary` say where an exec of COUNT_ADVANCE makes them. -/
def Obligations.DeferredAssertsAreTakenOrLapse : Prop :=
  (∀ (n : Cycle) (s t : State) (low : Bank DriveLine 16), t = s.countdown n
    → (∀ d, low.read d = match (s.line d).pulseEnd with
        | none => { s.line d with guardRemaining := (s.line d).guardRemaining - 1 }
        | some k =>
          if 2 ≤ k then { s.line d with pulseEnd := some (k - 1), guardRemaining := (s.line d).guardRemaining - 1 }
          else
            { s.line d with
              asserted := false
              pulseEnd := none
              guardRemaining := if (s.line d).asserted && interlocked s.settings d then guardOf s.settings d
                else (s.line d).guardRemaining - 1 })
    → (∀ d, (s.line d).deferred = none → t.line d = low.read d)
      ∧ (∀ d x, (s.line d).deferred = some x →
        t.line d = if (if d.val % 2 = 0 then blocked s.settings low d else blocked s.settings t.drive d) then low.read d
          else ⟨true, (s.line d).forcing, match x.kind with
            | .assert => none
            | .pulse w => some w, none, 0⟩)
      ∧ (∀ a, t.session a =
        ((List.finRange 16).filter fun d => (s.line d).deferred.isSome && (t.line d).deferred == none
          && s.driveOwner.read d == some a).foldl (fun q d =>
            if q.state.present then
              q.offer ⟨.interlockResolved d (((s.line d).deferred.map fun x => x.cycle).getD 0) true, n⟩
            else q) (s.session a))
      ∧ t = { s with drive := t.drive, sessions := t.sessions })
  ∧ ∀ (n : Cycle) (s t : State), t = s.lapseDeferrals n →
    (∀ d, t.line d = match (s.line d).deferred with
      | none => s.line d
      | some x => if x.cycle = s.time.cycle then s.line d else { s.line d with deferred := none })
    ∧ (∀ a, t.session a =
      ((List.finRange 16).filter fun d => (s.line d).deferred.isSome && (t.line d).deferred == none
        && s.driveOwner.read d == some a).foldl (fun q d =>
          if q.state.present then
            q.offer ⟨.interlockResolved d (((s.line d).deferred.map fun x => x.cycle).getD 0) false, n⟩
          else q) (s.session a))
    ∧ t = { s with drive := t.drive, sessions := t.sessions }

/-- PULSE_END and GUARD_END as rows of their own, on a line at its last count while RUNNING (log entry 8); elsewhere
they change nothing. -/
def Obligations.PulseAndGuardEndAtTheLastCount : Prop :=
  ∀ (d : Drive) (s : State), s.live = true →
    (s.time.run = .running → (s.line d).pulseEnd = some 1 → (s.line d).asserted = true →
      exec (.pulseEnd d) s = .next (s.setLine d { s.line d with
        asserted := false
        pulseEnd := none
        guardRemaining := if interlocked s.settings d then guardOf s.settings d else (s.line d).guardRemaining }))
    ∧ (¬ (s.time.run = .running ∧ (s.line d).pulseEnd = some 1) → exec (.pulseEnd d) s = .next s)
    ∧ (s.time.run = .running → (s.line d).guardRemaining = 1 →
      exec (.guardEnd d) s = .next (s.setLine d { s.line d with guardRemaining := 0 }))
    ∧ (¬ (s.time.run = .running ∧ (s.line d).guardRemaining = 1) → exec (.guardEnd d) s = .next s)

/-! ## Sense lines and captures (chapter 7) -/

/-- SET_SENSE gives an owned line its setup, clears its counter and reloads its capture path from its last sample,
which absorbs an edge not yet taken (log entry 11); the armed state is kept. Otherwise it is refused. The edge
selection is 01H RISING, 02H FALLING or 03H BOTH, and the prescale 1, 2, 4 or 8. -/
def Obligations.SetSenseSetsUpTheLine : Prop :=
  (∀ (k : Nat) (e : EdgeSelect), edgeSelectOf k = some e ↔
    (k = 1 ∧ e = .rising) ∨ (k = 2 ∧ e = .falling) ∨ (k = 3 ∧ e = .both))
  ∧ (∀ k n : Nat, prescaleOf k = some n ↔ n = k ∧ (k = 1 ∨ k = 2 ∨ k = 4 ∨ k = 8))
  ∧ ∀ (p : Agent) (tag b1 b2 b3 : Byte) (i : Sense) (e : EdgeSelect) (k : Nat) (l' : SenseLine) (s : State),
    s.Accepts p → (s.session p).state = .openState
    → edgeSelectOf b1.toNat = some e → prescaleOf b2.toNat = some k → b3.toNat ≤ 15
    → l' = ⟨e, k, 0, b3.toNat, ⟨(s.senseLine i).sample, 0⟩, (s.senseLine i).armed, (s.senseLine i).sample⟩
    → (s.senseOwner.read i = some p → exec (.setSense p tag [byte i.val, b1, b2, b3]) s = .next
        { (s.answered p ⟨tag, 0x11, .ok, .senseReport l' (s.session p).captures.length⟩).setSenseLine i l' with
          arisen := s.arisen.filter fun e => !e.isEdgeOf i })
      ∧ (s.senseOwner.read i ≠ some p → exec (.setSense p tag [byte i.val, b1, b2, b3]) s =
        .next (s.answered p ⟨tag, 0x11, .lineNotOwned, .lineOf (.sense i)⟩))
      ∧ (∀ c0 c1 c2 c3 : Byte, (8 ≤ c0.toNat ∨ edgeSelectOf c1.toNat = none ∨ prescaleOf c2.toNat = none
          ∨ 16 ≤ c3.toNat) → exec (.setSense p tag [c0, c1, c2, c3]) s =
        .next (s.answered p ⟨tag, 0x11, .badArgument, .none⟩))

/-- ARM_SENSE and DISARM_SENSE on an owned line set its armed state and clear its prescale counter, and nothing else. -/
def Obligations.ArmingClearsTheCounter : Prop :=
  ∀ (p : Agent) (tag : Byte) (i : Sense) (s : State), s.Accepts p → (s.session p).state = .openState →
    (s.senseOwner.read i = some p →
      exec (.armSense p tag [byte i.val]) s = .next
        ((s.answered p ⟨tag, 0x12, .ok, .senseReport { s.senseLine i with armed := true, counter := 0 }
          (s.session p).captures.length⟩).setSenseLine i { s.senseLine i with armed := true, counter := 0 })
      ∧ exec (.disarmSense p tag [byte i.val]) s = .next
        ((s.answered p ⟨tag, 0x13, .ok, .senseReport { s.senseLine i with armed := false, counter := 0 }
          (s.session p).captures.length⟩).setSenseLine i { s.senseLine i with armed := false, counter := 0 }))
    ∧ (s.senseOwner.read i ≠ some p →
      exec (.armSense p tag [byte i.val]) s = .next (s.answered p ⟨tag, 0x12, .lineNotOwned, .none⟩)
      ∧ exec (.disarmSense p tag [byte i.val]) s = .next (s.answered p ⟨tag, 0x13, .lineNotOwned, .none⟩))
    ∧ (∀ b : Byte, 8 ≤ b.toNat →
      exec (.armSense p tag [b]) s = .next (s.answered p ⟨tag, 0x12, .badArgument, .none⟩)
      ∧ exec (.disarmSense p tag [b]) s = .next (s.answered p ⟨tag, 0x13, .badArgument, .none⟩))

/-- READ_CAPTURES removes up to the maximum of the oldest records and returns them with the number left, the nine lost
counts and the overrun flag as they stood; the counts become 0 and the flag CLEAR. -/
def Obligations.ReadCapturesTakesTheOldest : Prop :=
  ∀ (p : Agent) (tag k : Byte) (s : State), s.Accepts p → (s.session p).state.present = true →
    (1 ≤ k.toNat → k.toNat ≤ 6 → exec (.readCaptures p tag [k]) s = .next
      ((s.answered p ⟨tag, 0x14, .ok, .captures ((s.session p).captures.length - k.toNat) (s.session p).lostSense
          (s.session p).lostMarker (s.session p).overrun ((s.session p).captures.take k.toNat)⟩).setSession p
        { (s.session p).renew with
          captures := (s.session p).captures.drop k.toNat
          lostSense := Bank.fill 8 0
          lostMarker := 0
          overrun := false }))
    ∧ ((k.toNat = 0 ∨ 7 ≤ k.toNat) → exec (.readCaptures p tag [k]) s =
      .next (s.answered p ⟨tag, 0x14, .badArgument, .none⟩))

/-- A filtered edge: discarded on a line that is unowned, DISARMED or whose selection it does not match; counted on any
other, where the edge that completes the prescale makes a record with the time base's cycle, count and TIMEBASE_IDLE.
The path's level is the edge's in every case: that the row acts so whether or not samples led to it is log entry 7. -/
def Obligations.CaptureEdgeCountsTowardThePrescale : Prop :=
  ∀ (i : Sense) (e : Edge) (l : SenseLine) (s s' : State), s.live = true
    → s' = { s with arisen := s.arisen.filter fun f => f != Event.captureEdge i e }
    → l = { s.senseLine i with path := ⟨edgeLevel e, 0⟩, sample := edgeLevel e }
    → ((s.senseOwner.read i = none ∨ (s.senseLine i).armed = false ∨ (s.senseLine i).select.selects e = false) →
        exec (.captureEdge i e) s = .next (s'.setSenseLine i l))
      ∧ (∀ a, s.senseOwner.read i = some a → (s.senseLine i).armed = true → (s.senseLine i).select.selects e = true →
        ((s.senseLine i).counter + 1 < (s.senseLine i).prescale →
          exec (.captureEdge i e) s = .next (s'.setSenseLine i { l with counter := (s.senseLine i).counter + 1 }))
        ∧ ((s.senseLine i).prescale ≤ (s.senseLine i).counter + 1 →
          exec (.captureEdge i e) s = .next ((s'.setSenseLine i { l with counter := 0 }).makeRecord a
            (.edge i e (s.time.run == .stopped || s.time.run == .armed)) s.time.count)))

/-- A record made for a session takes its sequence number. With room in the queue it joins, with CAPTURE_READY if the
queue was empty; on a full queue it is dropped and counted by its source, with CAPTURE_OVERRUN if none has been reported
since the last read. No other session, line or block changes. -/
def Obligations.RecordsJoinOrAreCounted : Prop :=
  ∀ (a : Agent) (kind : RecordKind) (count : Nat) (q : Session) (s : State),
    q = s.session a → q.state.present = true →
    (q.captures = [] → s.makeRecord a kind count = s.setSession a
      (({ q with captures := [⟨kind, q.sequence, s.time.cycle, count⟩], sequence := q.sequence + 1 } : Session).offer
        ⟨.captureReady q.sequence kind, s.time.cycle⟩))
    ∧ (q.captures ≠ [] → q.captures.length < 32 → s.makeRecord a kind count = s.setSession a
      { q with
        captures := q.captures ++ [⟨kind, q.sequence, s.time.cycle, count⟩]
        sequence := q.sequence + 1 })
    ∧ (∀ newest, 32 ≤ q.captures.length → q.captures.getLast? = some newest →
      s.makeRecord a kind count = s.setSession a
        (let dropped : Session :=
          { q with
            lostSense := match kind with
              | .edge i _ _ => q.lostSense.write i (min 255 (q.lostSense.read i + 1))
              | .mark _ => q.lostSense
            lostMarker := match kind with
              | .edge _ _ _ => q.lostMarker
              | .mark _ => min 255 (q.lostMarker + 1)
            sequence := if q.sequence + 1 = newest.sequence then q.sequence else q.sequence + 1
            overrun := true }
        if q.overrun then dropped
        else dropped.offer ⟨.captureOverrun kind.source q.sequence, s.time.cycle⟩))

/-! ## Settings and the ballot (chapter 8) -/

/-- An accepted PROPOSE with electors opens the ballot, with the next number, and queues BALLOT_OPENED to each elector;
with none to wait for it passes at once with BALLOT_CLOSED to the proposer, and while the time base runs it waits as
PASSED. While it does not, the settings are applied in the same event (`ImmediateApplicationStartsAndTells`). -/
def Obligations.ProposeOpensABallot : Prop :=
  ∀ (p : Agent) (tag steps : Byte) (r : List Byte) (el : Bank Bool 4) (s : State),
    s.Accepts p → (s.session p).state = .openState → r.length = 38 → s.ballot.slot = .empty → steps ≠ 0
    → unusedBitSet r = false → s.settingFault r = none → s.offsetConflict (proposalOf r) = none
    → s.quotaConflict (proposalOf r) = none
    → (∀ d, (proposalOf r).lockSet.read d = true → s.driveOwner.read d = none)
    → el = Bank.build (fun b => b != p && (s.session b).state == .openState)
    → ((∃ b, el.read b = true) → exec (.propose p tag (steps :: r)) s = .next
        { s.answered p ⟨tag, 0x15, .ok, .proposed (s.ballot.number + 1) el .openBallot⟩ with
          ballot := ⟨s.ballot.number + 1,
            .openSlot ⟨p, proposalOf r, el, emptySet 4, 10 * steps.toNat⟩, s.ballot.last⟩
          sessions := Bank.build fun b =>
            if b = p then (s.session p).renew
            else if el.read b then (s.session b).offer
              ⟨.ballotOpened (s.ballot.number + 1) p (10 * steps.toNat), s.time.cycle⟩
            else s.session b })
      ∧ ((∀ b, el.read b = false) → s.time.run.isRunning = true → exec (.propose p tag (steps :: r)) s = .next
        { s.answered p ⟨tag, 0x15, .ok, .proposed (s.ballot.number + 1) el .passed⟩ with
          ballot := ⟨s.ballot.number + 1, .passed p (proposalOf r), some ⟨s.ballot.number + 1, .passed⟩⟩
          sessions := s.sessions.write p
            ((s.session p).renew.offer ⟨.ballotClosed (s.ballot.number + 1) .passed, s.time.cycle⟩) })
      ∧ ((∀ b, el.read b = false) → s.time.run.isRunning = false → ∃ t,
        exec (.propose p tag (steps :: r)) s = .next t
        ∧ t = (({ (s.settle p).renewLease p with
            ballot := ⟨s.ballot.number + 1, .passed p (proposalOf r), some ⟨s.ballot.number + 1, .passed⟩⟩
            sessions := s.sessions.write p
              ((s.session p).renew.offer ⟨.ballotClosed (s.ballot.number + 1) .passed, s.time.cycle⟩)
            }).applyIfIdle).respond p ⟨tag, 0x15, .ok, .proposed (s.ballot.number + 1) el .applied⟩
        ∧ t.settings = s.settings.updated (proposalOf r)
        ∧ t.ballot = ⟨s.ballot.number + 1, .empty, some ⟨s.ballot.number + 1, .passed⟩⟩
        ∧ (t.port p).responses = (s.port p).responses ++
          [⟨tag, 0x15, .ok, .proposed (s.ballot.number + 1) el .applied⟩]
        ∧ t.driveOwner = s.driveOwner ∧ t.senseOwner = s.senseOwner)

/-- The checks of PROPOSE in the order of R138, each with its status and data; the slot, the settings and the lock set
are left as they were. -/
def Obligations.ProposeChecksInOrder : Prop :=
  ∀ (p : Agent) (tag steps : Byte) (r : List Byte) (s : State),
    s.Accepts p → (s.session p).state = .openState → r.length = 38
    → (∀ b, s.ballot.slot.proposer? = some b → exec (.propose p tag (steps :: r)) s =
        .next (s.answered p ⟨tag, 0x15, .ballotBusy, .ballotBusy s.ballot.slot.state s.ballot.number b⟩))
      ∧ (s.ballot.slot = .empty →
        (steps = 0 ∨ unusedBitSet r = true → exec (.propose p tag (steps :: r)) s =
          .next (s.answered p ⟨tag, 0x15, .badArgument, .none⟩))
        ∧ (steps ≠ 0 → unusedBitSet r = false →
          (∀ fault, s.settingFault r = some fault → exec (.propose p tag (steps :: r)) s =
            .next (s.answered p ⟨tag, 0x15, .invalidSetting, .settingFault fault⟩))
          ∧ (s.settingFault r = none →
            (∀ c, s.offsetConflict (proposalOf r) = some c → exec (.propose p tag (steps :: r)) s =
              .next (s.answered p ⟨tag, 0x15, .offsetConflict,
                .offsetConflict c.agent c.entry.handle c.entry.offset c.active⟩))
            ∧ (s.offsetConflict (proposalOf r) = none →
              (∀ b k, s.quotaConflict (proposalOf r) = some b → (proposalOf r).quota.read b = some k →
                exec (.propose p tag (steps :: r)) s = .next (s.answered p ⟨tag, 0x15, .quotaConflict,
                  .quotaConflict b k (s.session b).staging.length (s.session b).active.length⟩))
              ∧ (s.quotaConflict (proposalOf r) = none →
                (∃ d, (proposalOf r).lockSet.read d = true ∧ s.driveOwner.read d ≠ none) →
                exec (.propose p tag (steps :: r)) s = .next (s.answered p ⟨tag, 0x15, .lineReserved,
                  .reservedLines (Bank.build fun d =>
                    (proposalOf r).lockSet.read d && (s.driveOwner.read d).isSome)⟩))))))

/-- What the checks of PROPOSE look at. INVALID_SETTING names the first rule of R136 that the record breaks, on the
settings that would result, and for RANGE the first field out of range in the order of R135, the run field last (log
entry 19). OFFSET_CONFLICT names the first entry at or beyond the proposed period, by agent, staging list before active
part (R139). QUOTA_CONFLICT names the first agent with more entries than its proposed quota (R139). The lock set is
both lines of each pair with a pair-setup field and each line with an idle-level field (R52). -/
def Obligations.ProposalChecksFollowTheRules : Prop :=
  (∀ (r : List Byte) (s : State) (p : Proposal) (mode : Mode) (trigger gate : Option Sense) (quota : Agent → Nat),
    p = proposalOf r → mode = p.mode.getD s.settings.mode
    → trigger = p.triggerSource.getD s.settings.triggerSource → gate = p.gateSource.getD s.settings.gateSource
    → (∀ a, quota a = (p.quota.read a).getD (s.settings.quota.read a))
    → s.settingFault r =
      if byteAt r 0 = 0 ∧ byteAt r 1 % 16 = 0 ∧ byteAt r 2 = 0 ∧ halfAt r 3 = 0 then some .empty
      else if (byteAt r 0).testBit 7 = true ∧ halfAt r 5 = 1 then some (.range .period)
      else if (byteAt r 0).testBit 6 = true ∧ (halfAt r 7 = 0 ∨ 4096 < halfAt r 7) then some (.range .divider)
      else if (byteAt r 0).testBit 5 = true ∧ 3 < byteAt r 9 then some (.range .mode)
      else if (byteAt r 0).testBit 2 = true ∧ 8 < byteAt r 13 then some (.range .triggerSource)
      else if (byteAt r 0).testBit 1 = true ∧ 8 < byteAt r 14 then some (.range .gateSource)
      else if (byteAt r 0).testBit 0 = true ∧ 15 < byteAt r 15 then some (.range .timingFilter)
      else if ∃ a : Agent, (byteAt r 1).testBit a.val = true ∧ 128 < byteAt r (16 + a.val) then some (.range .quota)
      else if (byteAt r 0).testBit 4 = true ∧ byteAt r 10 ≠ 1 ∧ byteAt r 10 ≠ 2 then some (.range .run)
      else if (mode = .triggered ∨ mode = .restart) ∧ trigger = none then some .modeSource
      else if mode = .gated ∧ gate = none then some .modeSource
      else if 128 < quota 0 + quota 1 + quota 2 + quota 3 then some .quotaSum
      else none)
  ∧ (∀ (s : State) (p : Proposal),
    (p.period = none → s.offsetConflict p = none)
    ∧ ∀ k, p.period = some k →
      (s.offsetConflict p = none ↔
        ∀ a e, e ∈ (s.session a).staging ∨ e ∈ (s.session a).active → e.offset < k)
      ∧ ∀ c, s.offsetConflict p = some c → k ≤ c.entry.offset
        ∧ (∀ a, a < c.agent → ∀ e, e ∈ (s.session a).staging ∨ e ∈ (s.session a).active → e.offset < k)
        ∧ (c.active = false → ∃ before after, (s.session c.agent).staging = before ++ c.entry :: after
          ∧ ∀ e ∈ before, e.offset < k)
        ∧ (c.active = true → (∀ e ∈ (s.session c.agent).staging, e.offset < k)
          ∧ ∃ before after, (s.session c.agent).active = before ++ c.entry :: after ∧ ∀ e ∈ before, e.offset < k))
  ∧ (∀ (s : State) (p : Proposal) (exceeds : Agent → Prop),
    (∀ a, exceeds a ↔ ∃ k, p.quota.read a = some k
      ∧ (k < (s.session a).staging.length ∨ k < (s.session a).active.length))
    → (s.quotaConflict p = none ↔ ∀ a, ¬ exceeds a)
      ∧ ∀ a, s.quotaConflict p = some a ↔ (exceeds a ∧ ∀ b, b < a → ¬ exceeds b))
  ∧ ∀ (s : State) (p : Proposal) (d : Drive),
    (p.lockSet.read d = true ↔ p.pairSetup.read (pairOf d) ≠ none ∨ p.idleLevel.read d ≠ none)
    ∧ (s.ballot.slot = .empty → s.lockSet.read d = false)
    ∧ (∀ b, s.ballot.slot = .openSlot b → s.lockSet = b.proposal.lockSet)
    ∧ (∀ b q, s.ballot.slot = .passed b q → s.lockSet = q.lockSet)

/-- VOTE: the refusals of R142 in their order; an ACCEPT that leaves electors waiting is recorded; one that completes
the set passes the ballot, which waits while the time base runs and is applied at once while it does not
(`ImmediateApplicationStartsAndTells`); a REJECT fails it. -/
def Obligations.VoteDecidesTheBallot : Prop :=
  ∀ (p : Agent) (tag n1 n0 choice : Byte) (s : State), s.Accepts p → (s.session p).state = .openState →
    (choice ≠ 1 → choice ≠ 2 → exec (.vote p tag [n1, n0, choice]) s =
      .next (s.answered p ⟨tag, 0x16, .badArgument, .none⟩))
    ∧ ((choice = 1 ∨ choice = 2) →
      ((∀ b, s.ballot.slot ≠ .openSlot b) ∨ s.ballot.number ≠ n1 ++ n0 → exec (.vote p tag [n1, n0, choice]) s =
        .next (s.answered p ⟨tag, 0x16, .staleBallot, .slotReport s.ballot.slot.state s.ballot.number⟩))
      ∧ ∀ b, s.ballot.slot = .openSlot b → s.ballot.number = n1 ++ n0 →
        (b.electorate.read p = false → exec (.vote p tag [n1, n0, choice]) s =
          .next (s.answered p ⟨tag, 0x16, .notElector, .none⟩))
        ∧ (b.electorate.read p = true → b.accepted.read p = true → exec (.vote p tag [n1, n0, choice]) s =
          .next (s.answered p ⟨tag, 0x16, .alreadyVoted, .none⟩))
        ∧ (b.electorate.read p = true → b.accepted.read p = false →
          (choice = 1 → b.accepted.write p true ≠ b.electorate → exec (.vote p tag [n1, n0, choice]) s = .next
            { s.answered p ⟨tag, 0x16, .ok, .voted s.ballot.number .openBallot
                (some ((List.finRange 4).countP fun a =>
                  b.electorate.read a && !(b.accepted.write p true).read a))⟩ with
              ballot := { s.ballot with slot := .openSlot { b with accepted := b.accepted.write p true } } })
          ∧ (choice = 1 → b.accepted.write p true = b.electorate → s.time.run.isRunning = true →
            ∃ t, exec (.vote p tag [n1, n0, choice]) s = .next t
              ∧ t.ballot = ⟨s.ballot.number, .passed b.proposer b.proposal, some ⟨s.ballot.number, .passed⟩⟩
              ∧ (t.port p).responses = (s.port p).responses ++
                [⟨tag, 0x16, .ok, .voted s.ballot.number .passed none⟩]
              ∧ (∀ a, t.session a =
                (let q := if a = p then (s.session p).renew else s.session a
                if (a = b.proposer ∨ b.electorate.read a = true) ∧ q.state.present = true then
                  q.offer ⟨.ballotClosed s.ballot.number .passed, s.time.cycle⟩
                else q))
              ∧ t.settings = s.settings ∧ t.time = s.time ∧ t.drive = s.drive ∧ t.sense = s.sense
              ∧ t.driveOwner = s.driveOwner ∧ t.senseOwner = s.senseOwner)
          ∧ (choice = 1 → b.accepted.write p true = b.electorate → s.time.run.isRunning = false →
            ∃ t, exec (.vote p tag [n1, n0, choice]) s = .next t
              ∧ t = (({ ((s.settle p).renewLease p).notifyEach s.time.cycle (.ballotClosed s.ballot.number .passed)
                  fun a => a == b.proposer || b.electorate.read a with
                ballot := ⟨s.ballot.number, .passed b.proposer b.proposal, some ⟨s.ballot.number, .passed⟩⟩
                }).applyIfIdle).respond p ⟨tag, 0x16, .ok, .voted s.ballot.number .applied none⟩
              ∧ t.settings = s.settings.updated b.proposal
              ∧ t.ballot = ⟨s.ballot.number, .empty, some ⟨s.ballot.number, .passed⟩⟩
              ∧ (t.port p).responses = (s.port p).responses ++
                [⟨tag, 0x16, .ok, .voted s.ballot.number .applied none⟩]
              ∧ t.driveOwner = s.driveOwner ∧ t.senseOwner = s.senseOwner)
          ∧ (choice = 2 → exec (.vote p tag [n1, n0, choice]) s = .next
            { (((s.settle p).renewLease p).notifyEach s.time.cycle
                (.ballotClosed s.ballot.number (.failed (.rejected p)))
                fun a => a == b.proposer || b.electorate.read a).respond p
                ⟨tag, 0x16, .ok, .voted s.ballot.number .failed none⟩ with
              ballot := ⟨s.ballot.number, .empty, some ⟨s.ballot.number, .failed (.rejected p)⟩⟩ })))

/-- The application of a ballot: the record takes each present field (R149); the run state follows the table of R16;
the budget is loaded by RUN, by a budget field and at a start (R10); a path is reloaded from the last sample of its
source if its source or the filter has another value (R6; log entry 25); entering STOPPED or ARMED brings down every
line that is not forced (R11), from STOPPED to ARMED too (log entry 23). A budget field loads the budget whatever its
value (log entry 24). The pin of a DEASSERTED line moves to a new idle level (R50). Sessions, owners, ports, the slot
and the cycle number do not change here. -/
def Obligations.AppliedSettingsFollowTheTables : Prop :=
  ∀ (p : Proposal) (s t : State), t = s.applySettings p →
    (t.settings.period = p.period.getD s.settings.period ∧ t.settings.divider = p.divider.getD s.settings.divider
      ∧ t.settings.mode = p.mode.getD s.settings.mode ∧ t.settings.budget = p.budget.getD s.settings.budget
      ∧ t.settings.triggerSource = p.triggerSource.getD s.settings.triggerSource
      ∧ t.settings.gateSource = p.gateSource.getD s.settings.gateSource
      ∧ t.settings.timingFilter = p.timingFilter.getD s.settings.timingFilter
      ∧ (∀ a, t.settings.quota.read a = (p.quota.read a).getD (s.settings.quota.read a))
      ∧ (∀ k, t.settings.pairSetup.read k = (p.pairSetup.read k).getD (s.settings.pairSetup.read k))
      ∧ ∀ d, t.settings.idleLevel.read d = (p.idleLevel.read d).getD (s.settings.idleLevel.read d))
    ∧ ((s.time.run = .stopped → p.run ≠ some .run → t.time.run = .stopped)
      ∧ (s.time.run = .armed → p.run = some .stop → t.time.run = .stopped)
      ∧ (((s.time.run = .stopped ∧ p.run = some .run) ∨ (s.time.run = .armed ∧ p.run ≠ some .stop)) →
        (t.settings.mode = .triggered → t.time.run = .armed)
        ∧ ((t.settings.mode = .free ∨ t.settings.mode = .restart) → t.time.run = .running)
        ∧ (t.settings.mode = .gated → t.time.run = if t.time.gate.level = .high then .running else .held))
      ∧ (s.time.run = .running → p.run = some .stop → t.time.run = .stopped)
      ∧ (s.time.run = .running → p.run ≠ some .stop → t.time.run =
        if t.settings.mode = .triggered ∧ s.settings.mode ≠ .triggered then .armed else .running))
    ∧ t.time.budgetRemaining = (if p.run = some .run ∨ p.budget ≠ none
        ∨ (s.time.run.isRunning = false ∧ t.time.run.isRunning = true) then t.settings.budget
      else s.time.budgetRemaining)
    ∧ t.time.trigger = (if t.settings.triggerSource ≠ s.settings.triggerSource
        ∨ t.settings.timingFilter ≠ s.settings.timingFilter then
        (match t.settings.triggerSource with
        | none => ⟨.low, 0⟩
        | some i => ⟨(s.senseLine i).sample, 0⟩)
      else s.time.trigger)
    ∧ t.time.gate = (if t.settings.gateSource ≠ s.settings.gateSource
        ∨ t.settings.timingFilter ≠ s.settings.timingFilter then
        (match t.settings.gateSource with
        | none => ⟨.low, 0⟩
        | some i => ⟨(s.senseLine i).sample, 0⟩)
      else s.time.gate)
    ∧ (t.time.run ≠ s.time.run → t.time.run.isRunning = false →
      t.time.count = 0 ∧ t.time.phase = 0 ∧ t.time.originReached = false
      ∧ ∀ d, t.line d = { s.line d with
          asserted := (s.line d).asserted && (s.line d).forcing != .free
          pulseEnd := none
          deferred := none
          guardRemaining := 0 })
    ∧ ((t.time.run = s.time.run ∨ t.time.run.isRunning = true) → t.drive = s.drive)
    ∧ (∀ d l, (s.line d).asserted = false → p.idleLevel.read d = some l → t.pin d = l)
    ∧ t.time.cycle = s.time.cycle ∧ t.time.leasePhase = s.time.leasePhase ∧ t.sessions = s.sessions
    ∧ t.ballot = s.ballot ∧ t.driveOwner = s.driveOwner ∧ t.senseOwner = s.senseOwner ∧ t.sense = s.sense
    ∧ t.ports = s.ports ∧ t.pending = s.pending

/-- The application of a ballot that has passed while the time base is STOPPED or ARMED (R148, R149, R150): the
settings are applied, a start begins a cycle (R16), the slot becomes EMPTY, TIMEBASE_CHANGED with cause SETTINGS tells
a change of the class of the run state (R12), and SETTINGS_APPLIED with way IMMEDIATE comes after it. At a start both
carry the number of the cycle begun, and come after what the entries at count 0 queue (log entry 15). While the time
base runs, and with no ballot PASSED, nothing happens. -/
def Obligations.ImmediateApplicationStartsAndTells : Prop :=
  ∀ s t : State, t = s.applyIfIdle →
    ((∀ b p, s.ballot.slot ≠ .passed b p) → t = s) ∧ (s.time.run.isRunning = true → t = s)
    ∧ ∀ b p, s.ballot.slot = .passed b p → s.time.run.isRunning = false → ∃ u v w : State,
      u = s.applySettings p
      ∧ (u.time.run.isRunning = false → v = u) ∧ (u.time.run.isRunning = true → CycleBegun u v)
      ∧ w = { v with ballot := { s.ballot with slot := .empty } }
      ∧ t = (if u.time.run.runClass = s.time.run.runClass then w
          else w.notifyAll w.time.cycle
            (.timebaseChanged w.time.run w.settings.mode .settings w.time.budgetRemaining)).notifyAll w.time.cycle
        (.settingsApplied s.ballot.number .immediate)
      ∧ t.settings = s.settings.updated p

/-- RETRACT: STALE_BALLOT unless the slot is OPEN with the number given, in PASSED too; NOT_PROPOSER unless the agent is
the proposer; otherwise the ballot fails with reason WITHDRAWN, and the response carries its number. -/
def Obligations.RetractFailsTheOwnBallot : Prop :=
  ∀ (p : Agent) (tag n1 n0 : Byte) (s : State), s.Accepts p →
    ((s.session p).state = .closing → exec (.retract p tag [n1, n0]) s =
      .next (s.answered p ⟨tag, 0x17, .sessionClosing, .none⟩))
    ∧ ((s.session p).state = .openState →
      ((∀ b, s.ballot.slot ≠ .openSlot b) ∨ s.ballot.number ≠ n1 ++ n0 → exec (.retract p tag [n1, n0]) s =
        .next (s.answered p ⟨tag, 0x17, .staleBallot, .none⟩))
      ∧ ∀ b, s.ballot.slot = .openSlot b → s.ballot.number = n1 ++ n0 →
        (b.proposer ≠ p → exec (.retract p tag [n1, n0]) s =
          .next (s.answered p ⟨tag, 0x17, .notProposer, .none⟩))
        ∧ (b.proposer = p → exec (.retract p tag [n1, n0]) s = .next
          { (((s.settle p).renewLease p).notifyEach s.time.cycle (.ballotClosed s.ballot.number (.failed .withdrawn))
              fun a => a == p || b.electorate.read a).respond p
              ⟨tag, 0x17, .ok, .ballotNumber s.ballot.number⟩ with
            ballot := ⟨s.ballot.number, .empty, some ⟨s.ballot.number, .failed .withdrawn⟩⟩ }))

/-! ## Notices (chapter 9) -/

/-- A notice is offered only to sessions that are OPEN or CLOSING (R154). It joins a queue of fewer than 8; on a full
queue it is dropped and counted, the first drop's cycle is kept, and the queue does not change (R155). The attention
line is asserted exactly when the queue is not empty (R159). READ_NOTICES removes up to the maximum of the oldest
notices and returns them; if it removed one and notices were lost, NOTICES_LOST joins behind those left, with the count
and the first-loss cycle, and the count becomes 0 (R156, R157). -/
def Obligations.NoticesJoinAreCountedAndRead : Prop :=
  (∀ (q : Session) (x : Notice),
    (q.notices.length < 8 → q.offer x = { q with notices := q.notices ++ [x] })
    ∧ (8 ≤ q.notices.length → q.offer x =
      { q with
        lostNotices := min 255 (q.lostNotices + 1)
        firstLoss := if q.lostNotices = 0 then some x.cycle else q.firstLoss }))
  ∧ (∀ (s : State) (a : Agent), s.attention a = true ↔ (s.session a).notices ≠ [])
  ∧ (∀ (s : State) (n : Cycle) (k : NoticeKind) (who : Agent → Bool) (a : Agent),
    s.notifyEach n k who = { s with
        sessions := Bank.build fun b =>
          if who b = true ∧ (s.session b).state.present = true then (s.session b).offer ⟨k, n⟩ else s.session b }
    ∧ s.notifyAll n k = s.notifyEach n k (fun _ => true)
    ∧ s.notifyOthers n k a = s.notifyEach n k (fun b => b != a)
    ∧ s.notify n k a = s.notifyEach n k fun b => b == a)
  ∧ ∀ (p : Agent) (tag k : Byte) (s : State), s.Accepts p → (s.session p).state.present = true →
    (1 ≤ k.toNat → k.toNat ≤ 5 →
      (((s.session p).notices = [] ∨ (s.session p).lostNotices = 0) → exec (.readNotices p tag [k]) s = .next
        ((s.answered p ⟨tag, 0x1A, .ok, .notices ((s.session p).notices.length - k.toNat) false
            ((s.session p).notices.take k.toNat)⟩).setSession p
          { (s.session p).renew with notices := (s.session p).notices.drop k.toNat }))
      ∧ (∀ c, (s.session p).notices ≠ [] → 0 < (s.session p).lostNotices → (s.session p).firstLoss = some c →
        exec (.readNotices p tag [k]) s = .next
          ((s.answered p ⟨tag, 0x1A, .ok, .notices ((s.session p).notices.length - k.toNat + 1) true
              ((s.session p).notices.take k.toNat)⟩).setSession p
            { (s.session p).renew with
              notices := (s.session p).notices.drop k.toNat ++
                [⟨.noticesLost (s.session p).lostNotices c, s.time.cycle⟩]
              lostNotices := 0
              firstLoss := none })))
    ∧ ((k.toNat = 0 ∨ 6 ≤ k.toNat) → exec (.readNotices p tag [k]) s =
      .next (s.answered p ⟨tag, 0x1A, .badArgument, .none⟩))

/-! ## The time base (chapter 1) -/

/-- The entries due at a count are the active entries with that offset whose cadence, if they have one, matches the
cycle number (R2, R58, R59). Reaching the count serves them in execution order (R75, R77): the drive lines in ascending
order, so the second line of an interlocked pair is served on what the first was left as, then the sense lines, then
the MARKs in owner order, each of which makes a record (R126). Reaching count 0 sets origin reached. Nothing else
changes. A cycle that begins in RUNNING reaches count 0 at once (R3). -/
def Obligations.CountsReachedServeTheirDueEntries : Prop :=
  (∀ (s : State) (count : Nat) (t : Target) (a : Agent) (e : Entry),
    (a, e) ∈ s.dueOn count t ↔ e ∈ (s.session a).active ∧ e.target = t ∧ e.offset = count
      ∧ ∀ c, e.cadence = some c → s.time.cycle.toNat % c.interval = c.phase)
  ∧ (∀ (s : State) (count : Nat) (t : Target), (s.dueOn count t).Pairwise fun x y => x.1 ≤ y.1)
  ∧ (∀ (s t : State) (count : Nat), t = s.reach count →
    (∀ (d : Drive) (held : Bool),
      held = (if d.val % 2 = 0 then blocked s.settings s.drive d else blocked s.settings t.drive d) →
      t.line d = (s.dueOn count (.drive d)).foldl
        (fun l x => l.serve s.settings d held s.time.cycle x.2.action) (s.line d))
    ∧ (∀ i : Sense, t.senseLine i = (s.dueOn count (.sense i)).foldl
      (fun l x =>
        if x.2.action = .arm then { l with armed := true, counter := 0 }
        else if x.2.action = .disarm then { l with armed := false, counter := 0 }
        else l) (s.senseLine i))
    ∧ t.sessions = ((s.dueOn count .marker).foldl
      (fun u x => match x.2.action with
        | .mark label => u.makeRecord x.1 (.mark label) count
        | _ => u) s).sessions
    ∧ t = { s with
        time := { s.time with originReached := s.time.originReached || count == 0 }
        drive := t.drive
        sense := t.sense
        sessions := t.sessions })
  ∧ ∀ s : State, CycleBegun s s.beginCycle

/-- A count advance inside a cycle: the countdown lowers every guard and pulse end and takes deferred asserts
(`DeferredAssertsAreTakenOrLapse`), the count rises by one, and the entries due at it are served
(`CountsReachedServeTheirDueEntries`). In particular a line or sense line with no due entry takes the countdown alone,
and one with a single due entry takes that entry's action. While the time base does not run, the event only stands no
longer. That the row acts without the periods that lead to it, and sets the divider phase to 0, is log entry 7. -/
def Obligations.CountAdvanceCountsAndServes : Prop :=
  ∀ s : State, s.live = true →
    (s.time.run ≠ .running →
      exec .countAdvance s = .next { s with arisen := s.arisen.filter fun e => e != Event.countAdvance })
    ∧ (s.time.run = .running → s.time.count + 1 < s.settings.period → ∃ t, exec .countAdvance s = .next t
      ∧ (∀ u : State, u = ({ s with
            time := { s.time with phase := 0 }
            arisen := s.arisen.filter fun e => e != Event.countAdvance }).countdown s.time.cycle →
        t = ({ u with time := { s.time with count := s.time.count + 1, phase := 0 } }).reach (s.time.count + 1))
      ∧ t.time = { s.time with count := s.time.count + 1, phase := 0 }
      ∧ (∀ (d : Drive) (c : DriveLine), (s.line d).deferred = none →
        c = (match (s.line d).pulseEnd with
          | none => { s.line d with guardRemaining := (s.line d).guardRemaining - 1 }
          | some k =>
            if 2 ≤ k then
              { s.line d with pulseEnd := some (k - 1), guardRemaining := (s.line d).guardRemaining - 1 }
            else
              { s.line d with
                asserted := false
                pulseEnd := none
                guardRemaining := if (s.line d).asserted && interlocked s.settings d then guardOf s.settings d
                  else (s.line d).guardRemaining - 1 }) →
        (s.dueOn (s.time.count + 1) (.drive d) = [] → t.line d = c)
        ∧ (∀ a e, s.dueOn (s.time.count + 1) (.drive d) = [(a, e)] → interlocked s.settings d = false →
          t.line d = c.serve s.settings d false s.time.cycle e.action))
      ∧ (∀ i : Sense,
        (s.dueOn (s.time.count + 1) (.sense i) = [] → t.senseLine i = s.senseLine i)
        ∧ (∀ a e, s.dueOn (s.time.count + 1) (.sense i) = [(a, e)] →
          (e.action = .arm → t.senseLine i = { s.senseLine i with armed := true, counter := 0 })
          ∧ (e.action = .disarm → t.senseLine i = { s.senseLine i with armed := false, counter := 0 })))
      ∧ (∀ a, (s.session a).SameRecord (t.session a))
      ∧ t.settings = s.settings ∧ t.ballot = s.ballot ∧ t.driveOwner = s.driveOwner ∧ t.senseOwner = s.senseOwner
      ∧ t.ports = s.ports ∧ t.pending = s.pending)

/-- The count advance at the last count is a normal boundary, part by part (`IsBoundary`): the final countdown and the
budget, the exchange, the settings, the CLOSING teardowns, the lapse of deferred asserts, the new cycle with its
entries at count 0, and the notices of each. In particular PENDING commits are exchanged with the number of the cycle
that begins, a PASSED ballot's settings are applied, CLOSING sessions are torn down, and a new cycle begins if the time
base still runs. -/
def Obligations.BoundaryRunsItsFiveParts : Prop :=
  ∀ s : State, s.live = true → s.time.run = .running → s.settings.period ≤ s.time.count + 1 →
    ∃ t, exec .countAdvance s = .next t ∧ t.time.count = 0 ∧ t.time.phase = 0
      ∧ IsBoundary { s with
          time := { s.time with phase := 0 }
          arisen := s.arisen.filter fun e => e != Event.countAdvance } true t
      ∧ t.time.cycle = (if t.time.run.isRunning then s.time.cycle + 1 else s.time.cycle)
      ∧ BoundaryCrossed s t
      ∧ (∀ b p, s.ballot.slot = .passed b p → t.settings = s.settings.updated p ∧ t.ballot.slot = .empty)
      ∧ ((∀ b p, s.ballot.slot ≠ .passed b p) →
        t.settings = s.settings ∧ t.time.budgetRemaining = s.time.budgetRemaining - 1
        ∧ (s.time.budgetRemaining ≠ 1 → s.settings.mode ≠ .gated →
          t.time.run = .running ∧ t.time.originReached = true))

/-- BUDGET_RUN_OUT is the boundary at which the last cycle of the budget ends, with all its parts: normal at the last
count, early in RESTART mode before it, where no trigger edge is taken (log entry 9). If no ballot is PASSED, the time
base enters ARMED in TRIGGERED mode and STOPPED in any other, no cycle begins, and every line that is not forced is
deasserted, with no guard, pulse end or deferral left on any line. Where no such boundary stands, nothing happens. -/
def Obligations.BudgetRunOutStopsTheTimeBase : Prop :=
  ∀ s : State, s.live = true →
    (¬ (s.time.run = .running ∧ s.time.budgetRemaining = 1) → exec .budgetRunOut s = .next s)
    ∧ (s.time.count + 1 < s.settings.period → s.settings.mode ≠ .restart → exec .budgetRunOut s = .next s)
    ∧ (s.time.run = .running → s.time.budgetRemaining = 1 → s.settings.period ≤ s.time.count + 1 →
      ∃ t, exec .budgetRunOut s = .next t ∧ IsBoundary { s with time := { s.time with phase := 0 } } true t)
    ∧ (s.time.run = .running → s.time.budgetRemaining = 1 → s.time.count + 1 < s.settings.period →
      s.settings.mode = .restart → ∃ t, exec .budgetRunOut s = .next t ∧ IsBoundary s false t)
    ∧ (s.time.run = .running → s.time.budgetRemaining = 1
      → (s.settings.period ≤ s.time.count + 1 ∨ s.settings.mode = .restart)
      → (∀ b p, s.ballot.slot ≠ .passed b p)
      → ∃ t, exec .budgetRunOut s = .next t
        ∧ t.time = { s.time with
            run := if s.settings.mode = .triggered then .armed else .stopped
            count := 0
            phase := 0
            originReached := false
            budgetRemaining := 0 }
        ∧ (∀ d, (t.line d).guardRemaining = 0 ∧ (t.line d).pulseEnd = none ∧ (t.line d).deferred = none
          ∧ ((t.line d).forcing = .free → (t.line d).asserted = false))
        ∧ BoundaryCrossed s t ∧ t.settings = s.settings)

/-- A trigger edge starts a cycle in ARMED in TRIGGERED mode, with the budget loaded, count 0 reached and
TIMEBASE_CHANGED queued behind what its entries queue (log entry 15); in RUNNING in RESTART mode it makes an early
boundary, part by part (`IsBoundary`); anywhere else only the path takes its level. A gate change in GATED mode takes
RUNNING to HELD and HELD to RUNNING, where count 0 is reached if it has not been in this cycle. A path with no source
has no edge and no gate. That the rows act so whether or not samples led to them is log entry 7, and that a hold or a
restart drops a count advance that has arisen is log entry 12. -/
def Obligations.TriggersStartAndGatesHold : Prop :=
  (∀ (i : Sense) (s s' : State), s.live = true → s.settings.triggerSource = some i →
    s' = { s with
      time := { s.time with trigger := ⟨.high, 0⟩ }
      sense := s.sense.write i { s.senseLine i with sample := .high }
      arisen := s.arisen.filter fun e => e != Event.triggerEdge } →
    (s.time.run = .armed → s.settings.mode = .triggered → ∃ t, exec .triggerEdge s = .next t
      ∧ t.time = { s'.time with
          run := .running
          cycle := s.time.cycle + 1
          count := 0
          phase := 0
          originReached := true
          budgetRemaining := s.settings.budget }
      ∧ OriginReached s' t
      ∧ ∃ u, CycleBegun
          { s' with time := { s'.time with run := .running, budgetRemaining := s.settings.budget } } u
        ∧ t = u.notifyAll u.time.cycle (.timebaseChanged .running .triggered .triggerStart s.settings.budget))
    ∧ (s.time.run = .running → s.settings.mode = .restart → ∃ t, exec .triggerEdge s = .next t
      ∧ IsBoundary s' false t)
    ∧ (s.time.run = .running → s.settings.mode = .restart → s.time.budgetRemaining ≠ 1 →
      (∀ b p, s.ballot.slot ≠ .passed b p) → ∃ t, exec .triggerEdge s = .next t
      ∧ t.time = { s'.time with
          cycle := s.time.cycle + 1
          count := 0
          phase := 0
          originReached := true
          budgetRemaining := s.time.budgetRemaining - 1 }
      ∧ BoundaryCrossed s t ∧ t.settings = s.settings)
    ∧ (¬ (s.time.run = .armed ∧ s.settings.mode = .triggered)
      → ¬ (s.time.run = .running ∧ s.settings.mode = .restart) → exec .triggerEdge s = .next s'))
  ∧ (∀ (i : Sense) (level : Level) (s s' : State), s.live = true → s.settings.gateSource = some i →
    s' = { s with
      time := { s.time with gate := ⟨level, 0⟩ }
      sense := s.sense.write i { s.senseLine i with sample := level }
      arisen := s.arisen.filter fun e => e != Event.gateChange level } →
    (s.settings.mode = .gated → s.time.run = .running → level = .low → exec (.gateChange level) s = .next
      { s' with
        time := { s'.time with run := .held }
        arisen := s'.arisen.filter fun e => e != Event.countAdvance })
    ∧ (s.settings.mode = .gated → s.time.run = .held → level = .high → s.time.originReached = true →
      exec (.gateChange level) s = .next { s' with time := { s'.time with run := .running } })
    ∧ (s.settings.mode = .gated → s.time.run = .held → level = .high → s.time.originReached = false →
      ∃ t, exec (.gateChange level) s = .next t
        ∧ t.time = { s'.time with run := .running, originReached := true }
        ∧ t = ({ s' with time := { s'.time with run := .running } }).reach 0
        ∧ OriginReached s' t)
    ∧ (¬ (s.settings.mode = .gated
        ∧ ((s.time.run = .running ∧ level = .low) ∨ (s.time.run = .held ∧ level = .high))) →
      exec (.gateChange level) s = .next s'))
  ∧ ∀ s : State, s.live = true →
    (s.settings.triggerSource = none → exec .triggerEdge s = .next
      { s with arisen := s.arisen.filter fun e => e != Event.triggerEdge })
    ∧ (∀ level, s.settings.gateSource = none → exec (.gateChange level) s = .next
      { s with arisen := s.arisen.filter fun e => e != Event.gateChange level })

/-- One REFCLK period. Where no event stands and every port has seen its SELn_N, each path counts samples that differ
from its filtered level, and a sample beyond the filter makes an edge or a change arise; the divider phase and the
lease phase advance, and make a count advance and a lease clock advance arise. That a change is made when its event is
taken is log entry 5, and that the divider phase waits for its count advance is log entry 12. Before that, each port
samples its SELn_N: a fall not yet seen begins a transaction, and a rise ends one (R19). Before that, whatever event
still stands is taken as its row takes it, one after another until none stands (log entry 5), in an order left free
(log entry 6); what stands are the events that have arisen, leases that have run out, and a deadline that has passed.
-/
def Obligations.RefclkPeriodSamplesAndDivides : Prop :=
  (∀ (levels : Bank Level 8) (s : State), s.live = true → s.untaken = []
    → (∀ p, (s.port p).selected = true → (s.port p).transaction ≠ .idle)
    → (∀ p, (s.port p).selected = false → (s.port p).transaction = .idle)
    → exec (.refclkPeriod levels) s = .next
      { s with
        time := { s.time with
          phase := if s.time.run = .running ∧ s.time.phase + 1 < s.settings.divider then s.time.phase + 1
            else s.time.phase
          leasePhase := if s.time.leasePhase + 1 < 40000 then s.time.leasePhase + 1 else s.time.leasePhase
          trigger := match s.settings.triggerSource with
            | none => ⟨.low, 0⟩
            | some i =>
              if levels.read i = s.time.trigger.level then ⟨s.time.trigger.level, 0⟩
              else if s.time.trigger.run < s.settings.timingFilter then
                ⟨s.time.trigger.level, s.time.trigger.run + 1⟩
              else if levels.read i = .high then s.time.trigger
              else ⟨.low, 0⟩
          gate := match s.settings.gateSource with
            | none => ⟨.low, 0⟩
            | some i =>
              if levels.read i = s.time.gate.level then ⟨s.time.gate.level, 0⟩
              else if s.time.gate.run < s.settings.timingFilter then ⟨s.time.gate.level, s.time.gate.run + 1⟩
              else s.time.gate }
        sense := Bank.build fun i =>
          { s.senseLine i with
            sample := levels.read i
            path :=
              if levels.read i = (s.senseLine i).path.level then ⟨(s.senseLine i).path.level, 0⟩
              else if (s.senseLine i).path.run < (s.senseLine i).filter then
                ⟨(s.senseLine i).path.level, (s.senseLine i).path.run + 1⟩
              else (s.senseLine i).path }
        arisen :=
          ((List.finRange 8).flatMap fun i =>
            if levels.read i ≠ (s.senseLine i).path.level ∧ (s.senseLine i).filter ≤ (s.senseLine i).path.run then
              [Event.captureEdge i (if levels.read i = .high then .rising else .falling)]
            else [])
          ++ (match s.settings.triggerSource with
            | none => []
            | some i =>
              if levels.read i = .high ∧ s.time.trigger.level = .low ∧ s.settings.timingFilter ≤ s.time.trigger.run
              then [Event.triggerEdge] else [])
          ++ (match s.settings.gateSource with
            | none => []
            | some i =>
              if levels.read i ≠ s.time.gate.level ∧ s.settings.timingFilter ≤ s.time.gate.run
              then [Event.gateChange (levels.read i)] else [])
          ++ (if s.time.run = .running ∧ s.settings.divider ≤ s.time.phase + 1 then [Event.countAdvance] else [])
          ++ (if 40000 ≤ s.time.leasePhase + 1 then [Event.leaseClockAdvance] else []) })
  ∧ (∀ (levels : Bank Level 8) (s : State), s.live = true → s.untaken = [] →
    exec (.refclkPeriod levels) s = exec (.refclkPeriod levels)
      { s with
        ports := Bank.build fun p =>
          if (s.port p).selected = true ∧ (s.port p).transaction = .idle then
            { s.port p with
              transaction := .status (BitVec.ofNat 8 ((if (s.session p).notices = [] then 0 else 128)
                + 16 * (s.port p).responses.length + (s.port p).error.code))
              shiftedOut := none }
          else if (s.port p).selected = false ∧ (s.port p).transaction ≠ .idle then
            { s.port p with
              transaction := .idle
              error := if (s.port p).framing = .receiving then .truncated else (s.port p).error
              shiftedOut := none }
          else s.port p })
  ∧ (∀ (levels : Bank Level 8) (s : State), s.live = true → ∃ u : State,
    Relation.ReflTransGen State.TakesOne s u ∧ u.untaken = []
    ∧ exec (.refclkPeriod levels) s = exec (.refclkPeriod levels) u)
  ∧ ∀ (e : Event) (s : State), e ∈ s.untaken ↔ e ∈ s.arisen
    ∨ (∃ a l, e = .leaseExpiry a ∧ (s.session a).state.present = true ∧ (s.session a).lease = some l ∧ l.remaining = 0)
    ∨ (∃ b, e = .deadlineExpiry ∧ s.ballot.slot = .openSlot b ∧ b.deadline = 0)

/-! ## Agent ports (chapter 10) -/

/-- SELn_N falling forms the status byte, the transaction byte chooses what the transaction does, and SELn_N rising
ends it, with TRUNCATED latched if a frame was partial. A FETCH on an empty queue latches FETCH_EMPTY. The error codes
are those of section 11.1. A TRANSACTION_START where a transaction stands only shows the pin low again: SELn_N rose
while REFCLK was stopped, and that was not seen (R19). A rise that is still unseen when a transaction byte or another
byte comes is sampled before it, and so is a fall (log entry 13). A transaction-byte row past that byte changes
nothing; while the status byte goes out, it completes that byte first, which clears the error it carries; and where no
transaction stands, it begins one (log entry 21). -/
def Obligations.TransactionsBeginChooseAndEnd : Prop :=
  ([.none, .truncated, .overlength, .portFull, .fetchEmpty] : List PortError).map PortError.code = [0, 1, 2, 3, 4]
  ∧ ∀ (p : Agent) (s : State), s.live = true →
    ((s.port p).transaction = .idle → exec (.transactionStart p) s = .next (s.setPort p
      { s.port p with
        selected := true
        transaction := .status (BitVec.ofNat 8
          ((if (s.session p).notices = [] then 0 else 128) + 16 * (s.port p).responses.length + (s.port p).error.code))
        shiftedOut := none }))
    ∧ ((s.port p).transaction ≠ .idle → exec (.transactionStart p) s =
      .next (s.setPort p { s.port p with selected := true }))
    ∧ ((s.port p).selected = false → (s.port p).transaction ≠ .idle → ∀ u, exec (.transactionEnd p) s = .next u →
      (∀ v, exec (.byteShifted p v) s = exec (.byteShifted p v) u ∧ exec (.peek p v) s = exec (.peek p v) u)
      ∧ exec (.send p) s = exec (.send p) u ∧ exec (.fetch p) s = exec (.fetch p) u
      ∧ exec (.portReset p) s = exec (.portReset p) u)
    ∧ ((s.port p).selected = true → (s.port p).transaction = .idle → ∀ u, exec (.transactionStart p) s = .next u →
      (∀ v, exec (.byteShifted p v) s = exec (.byteShifted p v) u ∧ exec (.peek p v) s = exec (.peek p v) u)
      ∧ exec (.send p) s = exec (.send p) u ∧ exec (.fetch p) s = exec (.fetch p) u
      ∧ exec (.portReset p) s = exec (.portReset p) u)
    ∧ ((s.port p).selected = true →
      ((s.port p).transaction = .done ∨ (s.port p).transaction = .ignored
        ∨ (∃ frame, (s.port p).transaction = .receiving frame) ∨ (∃ k, (s.port p).transaction = .sending k)
        ∨ ∃ k, (s.port p).transaction = .marker k) →
      exec (.send p) s = .next s ∧ exec (.fetch p) s = .next s ∧ exec (.portReset p) s = .next s
      ∧ ∀ v, exec (.peek p v) s = .next s)
    ∧ (∀ (b : Byte) (u : State), (s.port p).selected = true → (s.port p).transaction = .status b →
      u = s.setPort p
        { s.port p with
          transaction := .command
          error := if b.toNat % 16 = (s.port p).error.code then .none else (s.port p).error
          shiftedOut := some b } →
      exec (.send p) s = exec (.send p) u ∧ exec (.fetch p) s = exec (.fetch p) u
      ∧ exec (.portReset p) s = exec (.portReset p) u ∧ ∀ v, exec (.peek p v) s = exec (.peek p v) u)
    ∧ (∀ u : State, (s.port p).selected = false → (s.port p).transaction = .idle →
      u = s.setPort p
        { s.port p with
          selected := true
          transaction := .command
          error := .none
          shiftedOut := some (BitVec.ofNat 8
            ((if (s.session p).notices = [] then 0 else 128) + 16 * (s.port p).responses.length
              + (s.port p).error.code)) } →
      exec (.send p) s = exec (.send p) u ∧ exec (.fetch p) s = exec (.fetch p) u
      ∧ exec (.portReset p) s = exec (.portReset p) u ∧ ∀ v, exec (.peek p v) s = exec (.peek p v) u)
    ∧ ((s.port p).selected = true → (s.port p).transaction = .command →
      exec (.send p) s = .next (s.setPort p { s.port p with transaction := .receiving [], shiftedOut := some 0 })
      ∧ ((s.port p).responses ≠ [] → exec (.fetch p) s =
        .next (s.setPort p { s.port p with transaction := .sending 0, shiftedOut := some 0 }))
      ∧ ((s.port p).responses = [] → exec (.fetch p) s =
        .next (s.setPort p { s.port p with transaction := .marker 0, error := .fetchEmpty, shiftedOut := some 0 }))
      ∧ (∀ v : Byte, v ≠ 0xA5 → v ≠ 0x5A → v ≠ 0xC3 → exec (.peek p v) s =
        .next (s.setPort p { s.port p with transaction := .done, shiftedOut := some 0 })))
    ∧ ((∀ frame, (s.port p).transaction ≠ .receiving frame) → exec (.transactionEnd p) s =
      .next (s.setPort p { s.port p with selected := false, transaction := .idle, shiftedOut := none }))
    ∧ (∀ frame, (s.port p).transaction = .receiving frame → exec (.transactionEnd p) s = .next (s.setPort p
      { s.port p with selected := false, transaction := .idle, error := .truncated, shiftedOut := none }))

/-- A byte shifted while SELn_N is low: the status byte going out clears the error it carries; the transaction byte is
taken; a byte of a frame joins the partial frame, is OVERLENGTH as a length above 60, and as the last one runs the
frame in the same event; a response goes out byte by byte and leaves the queue with its last; the empty-response marker
is 00H 00H FFH 00H; and once the transaction is complete, bytes are ignored and filler goes out. In a transaction that
is ignored since RESET_N rose, nothing goes out (log entry 31). -/
def Obligations.BytesShiftInAndOut : Prop :=
  ∀ (p : Agent) (v : Byte) (s : State), s.live = true →
    ((s.port p).selected = true ∨ (s.port p).transaction = .idle) →
    (∀ b : Byte, (s.port p).transaction = .status b → exec (.byteShifted p v) s = .next (s.setPort p
      { s.port p with
        transaction := .command
        error := if b.toNat % 16 = (s.port p).error.code then .none else (s.port p).error
        shiftedOut := some b }))
    ∧ ((s.port p).transaction = .command →
      (v = 0xA5 → exec (.byteShifted p v) s = exec (.send p) s)
      ∧ (v = 0x5A → exec (.byteShifted p v) s = exec (.fetch p) s)
      ∧ (v = 0xC3 → exec (.byteShifted p v) s = exec (.portReset p) s)
      ∧ (v ≠ 0xA5 → v ≠ 0x5A → v ≠ 0xC3 → exec (.byteShifted p v) s = exec (.peek p v) s))
    ∧ (∀ frame : List Byte, (s.port p).transaction = .receiving frame →
      (frame.length < 2 ∨ (frame.length = 2 ∧ 1 ≤ v.toNat ∧ v.toNat ≤ 60)
          ∨ (3 ≤ frame.length ∧ byteAt frame 2 ≤ 60 ∧ frame.length < 2 + byteAt frame 2) →
        exec (.byteShifted p v) s =
          .next (s.setPort p { s.port p with transaction := .receiving (frame ++ [v]), shiftedOut := some 0 }))
      ∧ (frame.length = 2 → 61 ≤ v.toNat → exec (.byteShifted p v) s =
        .next (s.setPort p { s.port p with transaction := .done, error := .overlength, shiftedOut := some 0 }))
      ∧ (∀ (i : Instr) (f : Frame), i.frame? = some f → f.port = p → f.payload.length ≤ 60 →
        frame ++ [v] = f.code :: f.tag :: BitVec.ofNat 8 f.payload.length :: f.payload →
        exec (.byteShifted p v) s = exec i (s.setPort p { s.port p with shiftedOut := some 0 })))
    ∧ (∀ (k : Nat) (r : Response) (rest : List Response),
      (s.port p).transaction = .sending k → (s.port p).responses = r :: rest →
      (k + 1 < r.bytes.length → exec (.byteShifted p v) s = .next (s.setPort p
        { s.port p with transaction := .sending (k + 1), shiftedOut := some (r.bytes.getD k 0) }))
      ∧ (r.bytes.length ≤ k + 1 → exec (.byteShifted p v) s = .next (s.setPort p
        { s.port p with transaction := .done, responses := rest, shiftedOut := some (r.bytes.getD k 0) })))
    ∧ (∀ k : Nat, (s.port p).transaction = .marker k → k < 4 → exec (.byteShifted p v) s = .next (s.setPort p
      { s.port p with
        transaction := if k < 3 then .marker (k + 1) else .done
        shiftedOut := some (if k = 2 then 0xFF else 0) }))
    ∧ ((s.port p).transaction = .done → exec (.byteShifted p v) s =
      .next (s.setPort p { s.port p with shiftedOut := some 0 }))
    ∧ ((s.port p).transaction = .ignored → exec (.byteShifted p v) s = .next s)
    ∧ ((s.port p).transaction = .idle → (s.port p).selected = false → exec (.byteShifted p v) s = .next s)

/-- What a response frame is, byte by byte (sections 11.1, 11.2 and 11.4, R166, R172): tag, code echo, status, payload
length and payload; the status codes and the codes of the enumerations, those of the settings fields in INVALID_SETTING
as log entry 19 has them; the entry, settings, capture and notice records; and the payload of each response, field by
field in the order of its rule, lists last behind the number of their items. What section 11.2 does not list has the
widths and absent codes of log entries 17, 22 and 29, and absent numbers and fields are followed by free bytes (log
entry 18). That WITHDRAW_ENTRY sends a whole entry record is log entry 32. A payload is at most 120 bytes. -/
def Obligations.ResponseFramesFollowTheLayouts : Prop :=
  (∀ r : Response, r.bytes = r.tag :: r.code :: r.status.code :: BitVec.ofNat 8 (r.data.bytes r.tag).length
    :: r.data.bytes r.tag)
  ∧ ([.ok, .applied, .pending, .noSession, .sessionExpired, .sessionClosing, .alreadyOpen, .badFrame, .unknownCommand,
      .badArgument, .offsetRange, .lineTaken, .lineNotOwned, .lineInUse, .ballotLock, .quotaFull, .duplicate,
      .noSuchHandle, .stagingFrozen, .commitPending, .nothingPending, .invalidEntry, .interlock, .ballotBusy,
      .staleBallot, .notElector, .alreadyVoted, .notProposer, .invalidSetting, .offsetConflict, .quotaConflict,
      .lineReserved] : List Status).map Status.code = (List.range 32).map (BitVec.ofNat 8)
  -- enumerations
  ∧ (([.closed, .openState, .closing, .expired] : List SessionState).map SessionState.code = [0, 1, 2, 3]
    ∧ ([.stopped, .armed, .running, .held] : List RunState).map RunState.code = [0, 1, 2, 3]
    ∧ ([.free, .triggered, .restart, .gated] : List Mode).map Mode.code = [0, 1, 2, 3]
    ∧ ([.run, .stop] : List RunField).map RunField.code = [1, 2]
    ∧ ([.empty, .openState, .passed] : List SlotState).map SlotState.code = [0, 1, 2]
    ∧ ([.rising, .falling, .both] : List EdgeSelect).map EdgeSelect.code = [1, 2, 3]
    ∧ ([.low, .high] : List Level).map levelCode = [0, 1]
    ∧ sourceCode none = 0 ∧ (∀ i : Sense, sourceCode (some i) = BitVec.ofNat 8 (i.val + 1))
    ∧ ([.closed, .expired, .portReset] : List LeaveReason).map LeaveReason.code = [0, 1, 2]
    ∧ ([.openBallot, .passed, .applied, .failed] : List Outcome).map Outcome.code = [0, 1, 2, 3]
    ∧ CommitState.code .none = 0 ∧ (∀ c, CommitState.code (.pending c) = 1)
    ∧ ([.boundary, .immediate] : List Way).map Way.code = [0, 1]
    ∧ ([.triggerStart, .budgetEnd, .settings] : List Cause).map Cause.code = [0, 1, 2]
    ∧ ([.free, .forcedAsserted, .forcedDeasserted] : List Forcing).map Forcing.code = [0, 1, 2]
    ∧ ([.period, .divider, .mode, .budget, .triggerSource, .gateSource, .timingFilter, .quota, .pairSetup, .idleLevel,
      .run] : List SettingField).map SettingField.code = (List.range 11).map (BitVec.ofNat 8))
  -- fields
  ∧ (∀ n : Nat, half n = [BitVec.ofNat 8 (n / 256), BitVec.ofNat 8 n])
  ∧ (∀ c : Cycle, cycleBytes c =
    [c.extractLsb' 24 8, c.extractLsb' 16 8, c.extractLsb' 8 8, c.extractLsb' 0 8])
  ∧ (∀ (b : Bank Bool 16) (d : Drive), ((256 * byteAt (driveSetBytes b) 0 + byteAt (driveSetBytes b) 1).testBit d.val
      = b.read d) ∧ (driveSetBytes b).length = 2)
  ∧ (∀ (b : Bank Bool 8) (i : Sense), (smallSetByte b).getLsbD i.val = b.read i)
  ∧ (∀ (b : Bank Bool 4) (a : Agent), (smallSetByte b).getLsbD a.val = b.read a)
  -- records
  ∧ (∀ (handle offset w : Nat) (label : Byte) (d : Drive) (i : Sense) (c : Option Cadence) (cadence : List Byte),
    cadence = (match c with
      | none => [0, 0]
      | some x => [BitVec.ofNat 8 x.interval, BitVec.ofNat 8 x.phase]) →
    Entry.bytes ⟨handle, .drive d, .assert, offset, c⟩ =
      [BitVec.ofNat 8 handle, BitVec.ofNat 8 d.val, 1] ++ half offset ++ [0, 0] ++ cadence ++ [0]
    ∧ Entry.bytes ⟨handle, .drive d, .deassert, offset, c⟩ =
      [BitVec.ofNat 8 handle, BitVec.ofNat 8 d.val, 2] ++ half offset ++ [0, 0] ++ cadence ++ [0]
    ∧ Entry.bytes ⟨handle, .drive d, .toggle, offset, c⟩ =
      [BitVec.ofNat 8 handle, BitVec.ofNat 8 d.val, 3] ++ half offset ++ [0, 0] ++ cadence ++ [0]
    ∧ Entry.bytes ⟨handle, .drive d, .pulse w, offset, c⟩ =
      [BitVec.ofNat 8 handle, BitVec.ofNat 8 d.val, 4] ++ half offset ++ half w ++ cadence ++ [0]
    ∧ Entry.bytes ⟨handle, .sense i, .arm, offset, c⟩ =
      [BitVec.ofNat 8 handle, BitVec.ofNat 8 (64 + i.val), 5] ++ half offset ++ [0, 0] ++ cadence ++ [0]
    ∧ Entry.bytes ⟨handle, .sense i, .disarm, offset, c⟩ =
      [BitVec.ofNat 8 handle, BitVec.ofNat 8 (64 + i.val), 6] ++ half offset ++ [0, 0] ++ cadence ++ [0]
    ∧ Entry.bytes ⟨handle, .marker, .mark label, offset, c⟩ =
      [BitVec.ofNat 8 handle, 0x80, 7] ++ half offset ++ [0, 0] ++ cadence ++ [label])
  ∧ (∀ (tag : Byte) (p : Proposal), (p.bytes tag).length = 38
    ∧ ((byteAt (p.bytes tag) 0).testBit 7 = p.period.isSome ∧ (byteAt (p.bytes tag) 0).testBit 6 = p.divider.isSome
      ∧ (byteAt (p.bytes tag) 0).testBit 5 = p.mode.isSome ∧ (byteAt (p.bytes tag) 0).testBit 4 = p.run.isSome
      ∧ (byteAt (p.bytes tag) 0).testBit 3 = p.budget.isSome
      ∧ (byteAt (p.bytes tag) 0).testBit 2 = p.triggerSource.isSome
      ∧ (byteAt (p.bytes tag) 0).testBit 1 = p.gateSource.isSome
      ∧ (byteAt (p.bytes tag) 0).testBit 0 = p.timingFilter.isSome)
    ∧ (∀ a : Agent, (byteAt (p.bytes tag) 1).testBit a.val = (p.quota.read a).isSome)
    ∧ (∀ k : Pair, (byteAt (p.bytes tag) 2).testBit k.val = (p.pairSetup.read k).isSome)
    ∧ (∀ d : Drive, (halfAt (p.bytes tag) 3).testBit d.val = (p.idleLevel.read d).isSome)
    ∧ (∀ n, p.period = some n → ((p.bytes tag).drop 5).take 2 = half (n % 65536))
    ∧ (∀ n, p.divider = some n → ((p.bytes tag).drop 7).take 2 = half n)
    ∧ (∀ m, p.mode = some m → (p.bytes tag)[9]? = some m.code)
    ∧ (∀ r, p.run = some r → (p.bytes tag)[10]? = some r.code)
    ∧ (∀ n, p.budget = some n → ((p.bytes tag).drop 11).take 2 = half n)
    ∧ (∀ x, p.triggerSource = some x → (p.bytes tag)[13]? = some (sourceCode x))
    ∧ (∀ x, p.gateSource = some x → (p.bytes tag)[14]? = some (sourceCode x))
    ∧ (∀ n, p.timingFilter = some n → (p.bytes tag)[15]? = some (BitVec.ofNat 8 n))
    ∧ (∀ a n, p.quota.read a = some n → (p.bytes tag)[16 + a.val]? = some (BitVec.ofNat 8 n))
    ∧ (∀ k x, p.pairSetup.read k = some x → ((p.bytes tag).drop (20 + 2 * k.val)).take 2 =
      half ((if x.interlock then 32768 else 0) + x.guard))
    ∧ ∀ d l, p.idleLevel.read d = some l → (halfAt (p.bytes tag) 36).testBit d.val = (l == .high))
  ∧ (∀ (i : Sense) (e : Edge) (idle : Bool) (q : Half) (c : Cycle) (n : Nat),
    CaptureRecord.bytes ⟨.edge i e idle, q, c, n⟩ =
      [1, BitVec.ofNat 8 i.val, (if idle then 2 else 0) + (if e = .falling then 1 else 0)] ++ half q.toNat
        ++ cycleBytes c ++ half n)
  ∧ (∀ (label : Byte) (q : Half) (c : Cycle) (n : Nat),
    CaptureRecord.bytes ⟨.mark label, q, c, n⟩ = [2, label, 0] ++ half q.toNat ++ cycleBytes c ++ half n)
  ∧ (∀ (c first : Cycle) (n : Nat) (w : Way) (q : Half) (a : Agent) (epoch label : Byte) (run : RunState) (m : Mode)
      (cause : Cause) (i : Sense) (e : Edge) (idle taken : Bool) (d : Drive) (reason : LeaveReason),
    Notice.bytes ⟨.commitApplied n w, c⟩ = 0 :: cycleBytes c ++ half n ++ [w.code, 0, 0, 0]
    ∧ Notice.bytes ⟨.ballotOpened q a n, c⟩ =
      1 :: cycleBytes c ++ half q.toNat ++ [BitVec.ofNat 8 a.val] ++ half n ++ [0]
    ∧ Notice.bytes ⟨.ballotClosed q .passed, c⟩ = 2 :: cycleBytes c ++ half q.toNat ++ [0, 0xFF, 0xFF, 0]
    ∧ Notice.bytes ⟨.ballotClosed q (.failed (.rejected a)), c⟩ =
      2 :: cycleBytes c ++ half q.toNat ++ [1, 0, BitVec.ofNat 8 a.val, 0]
    ∧ Notice.bytes ⟨.ballotClosed q (.failed .withdrawn), c⟩ = 2 :: cycleBytes c ++ half q.toNat ++ [1, 1, 0xFF, 0]
    ∧ Notice.bytes ⟨.ballotClosed q (.failed .deadline), c⟩ = 2 :: cycleBytes c ++ half q.toNat ++ [1, 2, 0xFF, 0]
    ∧ Notice.bytes ⟨.ballotClosed q (.failed .proposerGone), c⟩ =
      2 :: cycleBytes c ++ half q.toNat ++ [1, 3, 0xFF, 0]
    ∧ Notice.bytes ⟨.settingsApplied q w, c⟩ = 3 :: cycleBytes c ++ half q.toNat ++ [w.code, 0, 0, 0]
    ∧ Notice.bytes ⟨.timebaseChanged run m cause n, c⟩ =
      4 :: cycleBytes c ++ [run.code, m.code, cause.code] ++ half n ++ [0]
    ∧ Notice.bytes ⟨.captureReady q (.edge i e idle), c⟩ = 5 :: cycleBytes c ++ half q.toNat ++ [0, 0, 0, 0]
    ∧ Notice.bytes ⟨.captureReady q (.mark label), c⟩ = 5 :: cycleBytes c ++ half q.toNat ++ [1, 0, 0, 0]
    ∧ Notice.bytes ⟨.captureOverrun (.sense i) q, c⟩ =
      6 :: cycleBytes c ++ [BitVec.ofNat 8 i.val] ++ half q.toNat ++ [0, 0, 0]
    ∧ Notice.bytes ⟨.captureOverrun .marker q, c⟩ = 6 :: cycleBytes c ++ [8] ++ half q.toNat ++ [0, 0, 0]
    ∧ Notice.bytes ⟨.interlockResolved d first taken, c⟩ =
      7 :: cycleBytes c ++ [BitVec.ofNat 8 d.val] ++ cycleBytes first ++ [if taken then 0 else 1]
    ∧ Notice.bytes ⟨.peerJoined a epoch, c⟩ = 8 :: cycleBytes c ++ [BitVec.ofNat 8 a.val, epoch, 0, 0, 0, 0]
    ∧ Notice.bytes ⟨.peerLeft a epoch reason, c⟩ =
      9 :: cycleBytes c ++ [BitVec.ofNat 8 a.val, epoch, reason.code, 0, 0, 0]
    ∧ Notice.bytes ⟨.noticesLost n first, c⟩ = 10 :: cycleBytes c ++ half n ++ cycleBytes first)
  -- payloads
  ∧ (∀ (tag epoch : Byte) (a : Agent) (n m k : Nat) (st : SessionState) (run : RunState) (c c' : Cycle)
      (slot : SlotState) (q : Half) (yes : Bool) (next : Option Nat) (bound : Bound) (d : Drive) (i : Sense)
      (forcing : Forcing) (outcome : Outcome) (sets owned : LineSets) (drives : Bank Bool 16) (el yea : Bank Bool 4)
      (lost : Bank Nat 8) (entries : List Entry) (records : List CaptureRecord) (notices : List Notice) (e : Entry)
      (l : SenseLine) (field : SettingField) (commit : CommitState) (own mate : LineReport) (setup : PairSetup)
      (st' : Settings) (r : RunField) (p : Proposal) (pulse : Option Nat) (deferral : Option Deferred)
      (last : Option LastResult),
    Data.bytes tag .none = []
    ∧ Data.bytes tag (.opened a epoch) = [BitVec.ofNat 8 a.val, epoch]
    ∧ Data.bytes tag (.closed st yes) = [st.code, if yes then 1 else 0]
    ∧ Data.bytes tag (.leaseInterval n) = half n
    ∧ Data.bytes tag (.statusReport st epoch run c n slot q) =
      [st.code, epoch, run.code] ++ cycleBytes c ++ half n ++ [slot.code] ++ half q.toNat
    ∧ Data.bytes tag (.ownership sets owned) = driveSetBytes sets.drives ++ [smallSetByte sets.senses]
      ++ driveSetBytes owned.drives ++ [smallSetByte owned.senses]
    ∧ Data.bytes tag (.lines sets) = driveSetBytes sets.drives ++ [smallSetByte sets.senses]
    ∧ Data.bytes tag (.locked drives q) = driveSetBytes drives ++ half q.toNat
    ∧ Data.bytes tag (.lineOf (.drive d)) = [BitVec.ofNat 8 d.val]
    ∧ Data.bytes tag (.lineOf (.sense i)) = [BitVec.ofNat 8 i.val]
    ∧ Data.bytes tag (.handleOnly n) = [BitVec.ofNat 8 n]
    ∧ Data.bytes tag (.offsetRefused ⟨n, none⟩) =
      half (n % 65536) ++ 0 :: [Config.absentByte tag 0, Config.absentByte tag 1]
    ∧ Data.bytes tag (.offsetRefused ⟨n, some q⟩) = half (n % 65536) ++ 1 :: half q.toNat
    ∧ Data.bytes tag (.quotaFull ⟨n, none⟩ m) =
      [BitVec.ofNat 8 n, 0, 0, Config.absentByte tag 0, Config.absentByte tag 1] ++ half m
    ∧ Data.bytes tag (.quotaFull ⟨n, some q⟩ m) = [BitVec.ofNat 8 n, 1, 1] ++ half q.toNat ++ half m
    ∧ Bound.bytes tag ⟨n, none⟩ = [BitVec.ofNat 8 n, 0, 0, Config.absentByte tag 0, Config.absentByte tag 1]
    ∧ Bound.bytes tag ⟨n, some q⟩ = [BitVec.ofNat 8 n, 1, 1] ++ half q.toNat
    ∧ Data.bytes tag (.staged n m k) = BitVec.ofNat 8 n :: half m ++ [BitVec.ofNat 8 k]
    ∧ Data.bytes tag (.entryWithdrawn e n) = e.bytes ++ half n
    ∧ Data.bytes tag (.removed n) = half n
    ∧ Data.bytes tag (.stagedPage commit n bound next entries) = commit.code :: half n ++ bound.bytes tag
      ++ [match next with
        | none => 0xFF
        | some h => BitVec.ofNat 8 h] ++ half entries.length ++ entries.flatMap Entry.bytes
    ∧ Data.bytes tag (.activePage a n (some c) next entries) = BitVec.ofNat 8 a.val :: half n ++ 1 :: cycleBytes c
      ++ [match next with
        | none => 0xFF
        | some h => BitVec.ofNat 8 h] ++ half entries.length ++ entries.flatMap Entry.bytes
    ∧ Data.bytes tag (.activePage a n none next entries) =
      BitVec.ofNat 8 a.val :: half n ++ 0 :: (List.range 4).map (Config.absentByte tag)
      ++ [match next with
        | none => 0xFF
        | some h => BitVec.ofNat 8 h] ++ half entries.length ++ entries.flatMap Entry.bytes
    ∧ Data.bytes tag (.takenCycle c) = cycleBytes c
    ∧ Data.bytes tag (.committed c n) = cycleBytes c ++ half n
    ∧ Data.bytes tag (.entryFault (.quota bound n)) = 0 :: bound.bytes tag ++ half n
    ∧ Data.bytes tag (.entryFault (.lineNotOwned n (.drive d))) = [1, BitVec.ofNat 8 n, BitVec.ofNat 8 d.val]
    ∧ Data.bytes tag (.entryFault (.lineNotOwned n (.sense i))) = [1, BitVec.ofNat 8 n, BitVec.ofNat 8 i.val]
    ∧ Data.bytes tag (.entryFault (.offsetRange n ⟨m, none⟩)) =
      [2, BitVec.ofNat 8 n] ++ half (m % 65536) ++ 0 :: [Config.absentByte tag 0, Config.absentByte tag 1]
    ∧ Data.bytes tag (.entryFault (.offsetRange n ⟨m, some q⟩)) =
      [2, BitVec.ofNat 8 n] ++ half (m % 65536) ++ 1 :: half q.toNat
    ∧ Data.bytes tag (.entryFault (.interlock n m)) = [3, BitVec.ofNat 8 n, BitVec.ofNat 8 m]
    ∧ Data.bytes tag (.abandoned c n (some c')) = cycleBytes c ++ half n ++ 1 :: cycleBytes c'
    ∧ Data.bytes tag (.abandoned c n none) =
      cycleBytes c ++ half n ++ 0 :: (List.range 4).map (Config.absentByte tag)
    ∧ Data.bytes tag (.appliedCycle none) = 0 :: (List.range 4).map (Config.absentByte tag)
    ∧ Data.bytes tag (.appliedCycle (some c)) = 1 :: cycleBytes c
    ∧ Data.bytes tag (.partnerBlocks d yes forcing n) =
      [BitVec.ofNat 8 d.val, if yes then 1 else 0, forcing.code] ++ half n
    ∧ LineReport.bytes tag ⟨⟨yes, forcing, pulse, deferral, n⟩, setup⟩ =
      [if yes then 1 else 0, forcing.code]
        ++ (match pulse with
          | none => [0, 0]
          | some m => half m)
        ++ (match deferral with
          | none => 0xFF :: half 0 ++ 0 :: (List.range 4).map (Config.absentByte tag)
          | some ⟨.assert, c⟩ => 0 :: half 0 ++ 1 :: cycleBytes c
          | some ⟨.pulse w, c⟩ => 1 :: half w ++ 1 :: cycleBytes c)
        ++ half n ++ [if setup.interlock then 1 else 0] ++ half setup.guard
    ∧ Data.bytes tag (.lineReport own mate) = own.bytes tag ++ mate.bytes tag
    ∧ Data.bytes tag (.unforced own mate yes) = own.bytes tag ++ mate.bytes tag ++ [if yes then 1 else 0]
    ∧ Data.bytes tag (.senseReport l n) = [l.select.code, BitVec.ofNat 8 l.prescale, BitVec.ofNat 8 l.counter,
      BitVec.ofNat 8 l.filter, if l.armed then 1 else 0, levelCode l.path.level] ++ half n
    ∧ Data.bytes tag (.captures n lost m yes records) = half n
      ++ (List.finRange 8).flatMap (fun i => half (lost.read i)) ++ half m
      ++ [if yes then 1 else 0] ++ half records.length ++ records.flatMap CaptureRecord.bytes
    ∧ Data.bytes tag (.ballotBusy slot q a) = slot.code :: half q.toNat ++ [BitVec.ofNat 8 a.val]
    ∧ Data.bytes tag (.settingFault .empty) = [0, 0xFF]
    ∧ Data.bytes tag (.settingFault (.range field)) = [1, field.code]
    ∧ Data.bytes tag (.settingFault .modeSource) = [2, 0xFF]
    ∧ Data.bytes tag (.settingFault .quotaSum) = [3, 0xFF]
    ∧ Data.bytes tag (.offsetConflict a n m yes) =
      [BitVec.ofNat 8 a.val, BitVec.ofNat 8 n] ++ half m ++ [if yes then 1 else 0]
    ∧ Data.bytes tag (.quotaConflict a n m k) = [BitVec.ofNat 8 a.val, BitVec.ofNat 8 n] ++ half m ++ half k
    ∧ Data.bytes tag (.reservedLines drives) = driveSetBytes drives
    ∧ Data.bytes tag (.proposed q el outcome) = half q.toNat ++ [smallSetByte el, outcome.code]
    ∧ Data.bytes tag (.slotReport slot q) = slot.code :: half q.toNat
    ∧ Data.bytes tag (.voted q outcome (some n)) = half q.toNat ++ [outcome.code] ++ half n
    ∧ Data.bytes tag (.voted q outcome none) = half q.toNat ++ [outcome.code, 0xFF, 0xFF]
    ∧ Data.bytes tag (.ballotNumber q) = half q.toNat
    ∧ Data.bytes tag (.settings st' r) = [0xFF, 0x0F, 0xFF, 0xFF, 0xFF] ++ half (st'.period % 65536)
      ++ half st'.divider ++ [st'.mode.code, r.code] ++ half st'.budget
      ++ [sourceCode st'.triggerSource, sourceCode st'.gateSource, BitVec.ofNat 8 st'.timingFilter]
      ++ (List.finRange 4).map (fun a => BitVec.ofNat 8 (st'.quota.read a))
      ++ (List.finRange 8).flatMap (fun k =>
        half ((if (st'.pairSetup.read k).interlock then 32768 else 0) + (st'.pairSetup.read k).guard))
      ++ driveSetBytes (Bank.build fun d => st'.idleLevel.read d == .high)
    ∧ (lastBytes none = [0] ∧ lastBytes (some ⟨q, .passed⟩) = 1 :: half q.toNat ++ [0, 0xFF, 0xFF]
      ∧ lastBytes (some ⟨q, .failed (.rejected a)⟩) = 1 :: half q.toNat ++ [1, 0, BitVec.ofNat 8 a.val]
      ∧ lastBytes (some ⟨q, .failed .withdrawn⟩) = 1 :: half q.toNat ++ [1, 1, 0xFF]
      ∧ lastBytes (some ⟨q, .failed .deadline⟩) = 1 :: half q.toNat ++ [1, 2, 0xFF]
      ∧ lastBytes (some ⟨q, .failed .proposerGone⟩) = 1 :: half q.toNat ++ [1, 3, 0xFF])
    ∧ Data.bytes tag (.ballot ⟨q, .empty, last⟩) = 0 :: half q.toNat ++ lastBytes last
      ++ 0xFF :: Proposal.bytes tag ⟨none, none, none, none, none, none, none, none, Bank.fill 4 none, Bank.fill 8 none,
        Bank.fill 16 none⟩ ++ [0xFF, 0xFF, 0xFF, 0xFF, 0, 0]
    ∧ Data.bytes tag (.ballot ⟨q, .openSlot ⟨a, p, el, yea, n⟩, last⟩) = 1 :: half q.toNat ++ lastBytes last
      ++ BitVec.ofNat 8 a.val :: p.bytes tag ++ [smallSetByte el, smallSetByte yea] ++ half n
      ++ driveSetBytes p.lockSet
    ∧ Data.bytes tag (.ballot ⟨q, .passed a p, last⟩) = 2 :: half q.toNat ++ lastBytes last
      ++ BitVec.ofNat 8 a.val :: p.bytes tag ++ [0xFF, 0xFF, 0xFF, 0xFF] ++ driveSetBytes p.lockSet
    ∧ Data.bytes tag (.notices n yes notices) =
      half n ++ [if yes then 1 else 0] ++ half notices.length ++ notices.flatMap Notice.bytes)
  ∧ ∀ (tag : Byte) (x : Data),
    (∀ commit n bound next entries, x = .stagedPage commit n bound next entries → entries.length ≤ 5)
    → (∀ a n applied next entries, x = .activePage a n applied next entries → entries.length ≤ 5)
    → (∀ n lost m yes records, x = .captures n lost m yes records → records.length ≤ 6)
    → (∀ n yes notices, x = .notices n yes notices → notices.length ≤ 5)
    → (x.bytes tag).length ≤ 120
end

