-- ==== Sys2Proof/Laws/State.lean ====
section
/-! SUPPORT. What each named update of the state leaves as it was, field by field, and what it makes of the field it
writes. All are true by computation and are simp lemmas, so that no later proof unfolds a record update. -/

namespace Sys2Proof.Machine

variable (s : State)

/-! ## `State.setSession` -/
@[simp] theorem State.setSession_settings (a : Agent) (q : Session) : (s.setSession a q).settings = s.settings := rfl
@[simp] theorem State.setSession_time (a : Agent) (q : Session) : (s.setSession a q).time = s.time := rfl
@[simp] theorem State.setSession_ballot (a : Agent) (q : Session) : (s.setSession a q).ballot = s.ballot := rfl
@[simp] theorem State.setSession_driveOwner (a : Agent) (q : Session) : (s.setSession a q).driveOwner = s.driveOwner := rfl
@[simp] theorem State.setSession_senseOwner (a : Agent) (q : Session) : (s.setSession a q).senseOwner = s.senseOwner := rfl
@[simp] theorem State.setSession_drive (a : Agent) (q : Session) : (s.setSession a q).drive = s.drive := rfl
@[simp] theorem State.setSession_sense (a : Agent) (q : Session) : (s.setSession a q).sense = s.sense := rfl
@[simp] theorem State.setSession_ports (a : Agent) (q : Session) : (s.setSession a q).ports = s.ports := rfl
@[simp] theorem State.setSession_resetLow (a : Agent) (q : Session) : (s.setSession a q).resetLow = s.resetLow := rfl
@[simp] theorem State.setSession_refclk (a : Agent) (q : Session) : (s.setSession a q).refclk = s.refclk := rfl
@[simp] theorem State.setSession_arisen (a : Agent) (q : Session) : (s.setSession a q).arisen = s.arisen := rfl
@[simp] theorem State.setSession_freeCount (a : Agent) (q : Session) : (s.setSession a q).freeCount = s.freeCount := rfl
@[simp] theorem State.setSession_pending (a : Agent) (q : Session) : (s.setSession a q).pending = s.pending := rfl

/-! ## `State.setPort` -/
@[simp] theorem State.setPort_settings (p : Agent) (x : Port) : (s.setPort p x).settings = s.settings := rfl
@[simp] theorem State.setPort_time (p : Agent) (x : Port) : (s.setPort p x).time = s.time := rfl
@[simp] theorem State.setPort_ballot (p : Agent) (x : Port) : (s.setPort p x).ballot = s.ballot := rfl
@[simp] theorem State.setPort_driveOwner (p : Agent) (x : Port) : (s.setPort p x).driveOwner = s.driveOwner := rfl
@[simp] theorem State.setPort_senseOwner (p : Agent) (x : Port) : (s.setPort p x).senseOwner = s.senseOwner := rfl
@[simp] theorem State.setPort_drive (p : Agent) (x : Port) : (s.setPort p x).drive = s.drive := rfl
@[simp] theorem State.setPort_sense (p : Agent) (x : Port) : (s.setPort p x).sense = s.sense := rfl
@[simp] theorem State.setPort_sessions (p : Agent) (x : Port) : (s.setPort p x).sessions = s.sessions := rfl
@[simp] theorem State.setPort_resetLow (p : Agent) (x : Port) : (s.setPort p x).resetLow = s.resetLow := rfl
@[simp] theorem State.setPort_refclk (p : Agent) (x : Port) : (s.setPort p x).refclk = s.refclk := rfl
@[simp] theorem State.setPort_arisen (p : Agent) (x : Port) : (s.setPort p x).arisen = s.arisen := rfl
@[simp] theorem State.setPort_freeCount (p : Agent) (x : Port) : (s.setPort p x).freeCount = s.freeCount := rfl
@[simp] theorem State.setPort_pending (p : Agent) (x : Port) : (s.setPort p x).pending = s.pending := rfl

/-! ## `State.setLine` -/
@[simp] theorem State.setLine_settings (d : Drive) (l : DriveLine) : (s.setLine d l).settings = s.settings := rfl
@[simp] theorem State.setLine_time (d : Drive) (l : DriveLine) : (s.setLine d l).time = s.time := rfl
@[simp] theorem State.setLine_ballot (d : Drive) (l : DriveLine) : (s.setLine d l).ballot = s.ballot := rfl
@[simp] theorem State.setLine_driveOwner (d : Drive) (l : DriveLine) : (s.setLine d l).driveOwner = s.driveOwner := rfl
@[simp] theorem State.setLine_senseOwner (d : Drive) (l : DriveLine) : (s.setLine d l).senseOwner = s.senseOwner := rfl
@[simp] theorem State.setLine_sense (d : Drive) (l : DriveLine) : (s.setLine d l).sense = s.sense := rfl
@[simp] theorem State.setLine_sessions (d : Drive) (l : DriveLine) : (s.setLine d l).sessions = s.sessions := rfl
@[simp] theorem State.setLine_ports (d : Drive) (l : DriveLine) : (s.setLine d l).ports = s.ports := rfl
@[simp] theorem State.setLine_resetLow (d : Drive) (l : DriveLine) : (s.setLine d l).resetLow = s.resetLow := rfl
@[simp] theorem State.setLine_refclk (d : Drive) (l : DriveLine) : (s.setLine d l).refclk = s.refclk := rfl
@[simp] theorem State.setLine_arisen (d : Drive) (l : DriveLine) : (s.setLine d l).arisen = s.arisen := rfl
@[simp] theorem State.setLine_freeCount (d : Drive) (l : DriveLine) : (s.setLine d l).freeCount = s.freeCount := rfl
@[simp] theorem State.setLine_pending (d : Drive) (l : DriveLine) : (s.setLine d l).pending = s.pending := rfl

/-! ## `State.setSenseLine` -/
@[simp] theorem State.setSenseLine_settings (i : Sense) (l : SenseLine) : (s.setSenseLine i l).settings = s.settings := rfl
@[simp] theorem State.setSenseLine_time (i : Sense) (l : SenseLine) : (s.setSenseLine i l).time = s.time := rfl
@[simp] theorem State.setSenseLine_ballot (i : Sense) (l : SenseLine) : (s.setSenseLine i l).ballot = s.ballot := rfl
@[simp] theorem State.setSenseLine_driveOwner (i : Sense) (l : SenseLine) : (s.setSenseLine i l).driveOwner = s.driveOwner := rfl
@[simp] theorem State.setSenseLine_senseOwner (i : Sense) (l : SenseLine) : (s.setSenseLine i l).senseOwner = s.senseOwner := rfl
@[simp] theorem State.setSenseLine_drive (i : Sense) (l : SenseLine) : (s.setSenseLine i l).drive = s.drive := rfl
@[simp] theorem State.setSenseLine_sessions (i : Sense) (l : SenseLine) : (s.setSenseLine i l).sessions = s.sessions := rfl
@[simp] theorem State.setSenseLine_ports (i : Sense) (l : SenseLine) : (s.setSenseLine i l).ports = s.ports := rfl
@[simp] theorem State.setSenseLine_resetLow (i : Sense) (l : SenseLine) : (s.setSenseLine i l).resetLow = s.resetLow := rfl
@[simp] theorem State.setSenseLine_refclk (i : Sense) (l : SenseLine) : (s.setSenseLine i l).refclk = s.refclk := rfl
@[simp] theorem State.setSenseLine_arisen (i : Sense) (l : SenseLine) : (s.setSenseLine i l).arisen = s.arisen := rfl
@[simp] theorem State.setSenseLine_freeCount (i : Sense) (l : SenseLine) : (s.setSenseLine i l).freeCount = s.freeCount := rfl
@[simp] theorem State.setSenseLine_pending (i : Sense) (l : SenseLine) : (s.setSenseLine i l).pending = s.pending := rfl

/-! ## `State.notifyEach` -/
@[simp] theorem State.notifyEach_settings (n : Cycle) (k : NoticeKind) (who : Agent → Bool) : (s.notifyEach n k who).settings = s.settings := rfl
@[simp] theorem State.notifyEach_time (n : Cycle) (k : NoticeKind) (who : Agent → Bool) : (s.notifyEach n k who).time = s.time := rfl
@[simp] theorem State.notifyEach_ballot (n : Cycle) (k : NoticeKind) (who : Agent → Bool) : (s.notifyEach n k who).ballot = s.ballot := rfl
@[simp] theorem State.notifyEach_driveOwner (n : Cycle) (k : NoticeKind) (who : Agent → Bool) : (s.notifyEach n k who).driveOwner = s.driveOwner := rfl
@[simp] theorem State.notifyEach_senseOwner (n : Cycle) (k : NoticeKind) (who : Agent → Bool) : (s.notifyEach n k who).senseOwner = s.senseOwner := rfl
@[simp] theorem State.notifyEach_drive (n : Cycle) (k : NoticeKind) (who : Agent → Bool) : (s.notifyEach n k who).drive = s.drive := rfl
@[simp] theorem State.notifyEach_sense (n : Cycle) (k : NoticeKind) (who : Agent → Bool) : (s.notifyEach n k who).sense = s.sense := rfl
@[simp] theorem State.notifyEach_ports (n : Cycle) (k : NoticeKind) (who : Agent → Bool) : (s.notifyEach n k who).ports = s.ports := rfl
@[simp] theorem State.notifyEach_resetLow (n : Cycle) (k : NoticeKind) (who : Agent → Bool) : (s.notifyEach n k who).resetLow = s.resetLow := rfl
@[simp] theorem State.notifyEach_refclk (n : Cycle) (k : NoticeKind) (who : Agent → Bool) : (s.notifyEach n k who).refclk = s.refclk := rfl
@[simp] theorem State.notifyEach_arisen (n : Cycle) (k : NoticeKind) (who : Agent → Bool) : (s.notifyEach n k who).arisen = s.arisen := rfl
@[simp] theorem State.notifyEach_freeCount (n : Cycle) (k : NoticeKind) (who : Agent → Bool) : (s.notifyEach n k who).freeCount = s.freeCount := rfl
@[simp] theorem State.notifyEach_pending (n : Cycle) (k : NoticeKind) (who : Agent → Bool) : (s.notifyEach n k who).pending = s.pending := rfl

/-! ## `State.latch` -/
@[simp] theorem State.latch_settings (p : Agent) (e : PortError) : (s.latch p e).settings = s.settings := rfl
@[simp] theorem State.latch_time (p : Agent) (e : PortError) : (s.latch p e).time = s.time := rfl
@[simp] theorem State.latch_ballot (p : Agent) (e : PortError) : (s.latch p e).ballot = s.ballot := rfl
@[simp] theorem State.latch_driveOwner (p : Agent) (e : PortError) : (s.latch p e).driveOwner = s.driveOwner := rfl
@[simp] theorem State.latch_senseOwner (p : Agent) (e : PortError) : (s.latch p e).senseOwner = s.senseOwner := rfl
@[simp] theorem State.latch_drive (p : Agent) (e : PortError) : (s.latch p e).drive = s.drive := rfl
@[simp] theorem State.latch_sense (p : Agent) (e : PortError) : (s.latch p e).sense = s.sense := rfl
@[simp] theorem State.latch_sessions (p : Agent) (e : PortError) : (s.latch p e).sessions = s.sessions := rfl
@[simp] theorem State.latch_resetLow (p : Agent) (e : PortError) : (s.latch p e).resetLow = s.resetLow := rfl
@[simp] theorem State.latch_refclk (p : Agent) (e : PortError) : (s.latch p e).refclk = s.refclk := rfl
@[simp] theorem State.latch_arisen (p : Agent) (e : PortError) : (s.latch p e).arisen = s.arisen := rfl
@[simp] theorem State.latch_freeCount (p : Agent) (e : PortError) : (s.latch p e).freeCount = s.freeCount := rfl
@[simp] theorem State.latch_pending (p : Agent) (e : PortError) : (s.latch p e).pending = s.pending := rfl

/-! ## `State.respond` -/
@[simp] theorem State.respond_settings (p : Agent) (r : Response) : (s.respond p r).settings = s.settings := rfl
@[simp] theorem State.respond_time (p : Agent) (r : Response) : (s.respond p r).time = s.time := rfl
@[simp] theorem State.respond_ballot (p : Agent) (r : Response) : (s.respond p r).ballot = s.ballot := rfl
@[simp] theorem State.respond_driveOwner (p : Agent) (r : Response) : (s.respond p r).driveOwner = s.driveOwner := rfl
@[simp] theorem State.respond_senseOwner (p : Agent) (r : Response) : (s.respond p r).senseOwner = s.senseOwner := rfl
@[simp] theorem State.respond_drive (p : Agent) (r : Response) : (s.respond p r).drive = s.drive := rfl
@[simp] theorem State.respond_sense (p : Agent) (r : Response) : (s.respond p r).sense = s.sense := rfl
@[simp] theorem State.respond_sessions (p : Agent) (r : Response) : (s.respond p r).sessions = s.sessions := rfl
@[simp] theorem State.respond_resetLow (p : Agent) (r : Response) : (s.respond p r).resetLow = s.resetLow := rfl
@[simp] theorem State.respond_refclk (p : Agent) (r : Response) : (s.respond p r).refclk = s.refclk := rfl
@[simp] theorem State.respond_arisen (p : Agent) (r : Response) : (s.respond p r).arisen = s.arisen := rfl
@[simp] theorem State.respond_freeCount (p : Agent) (r : Response) : (s.respond p r).freeCount = s.freeCount := rfl
@[simp] theorem State.respond_pending (p : Agent) (r : Response) : (s.respond p r).pending = s.pending := rfl

/-! ## `State.settle` -/
@[simp] theorem State.settle_settings (p : Agent) : (s.settle p).settings = s.settings := rfl
@[simp] theorem State.settle_time (p : Agent) : (s.settle p).time = s.time := rfl
@[simp] theorem State.settle_ballot (p : Agent) : (s.settle p).ballot = s.ballot := rfl
@[simp] theorem State.settle_driveOwner (p : Agent) : (s.settle p).driveOwner = s.driveOwner := rfl
@[simp] theorem State.settle_senseOwner (p : Agent) : (s.settle p).senseOwner = s.senseOwner := rfl
@[simp] theorem State.settle_drive (p : Agent) : (s.settle p).drive = s.drive := rfl
@[simp] theorem State.settle_sense (p : Agent) : (s.settle p).sense = s.sense := rfl
@[simp] theorem State.settle_sessions (p : Agent) : (s.settle p).sessions = s.sessions := rfl
@[simp] theorem State.settle_resetLow (p : Agent) : (s.settle p).resetLow = s.resetLow := rfl
@[simp] theorem State.settle_refclk (p : Agent) : (s.settle p).refclk = s.refclk := rfl
@[simp] theorem State.settle_arisen (p : Agent) : (s.settle p).arisen = s.arisen := rfl
@[simp] theorem State.settle_freeCount (p : Agent) : (s.settle p).freeCount = s.freeCount := rfl
@[simp] theorem State.settle_pending (p : Agent) : (s.settle p).pending = s.pending := rfl

/-! ## `State.renewLease` -/
@[simp] theorem State.renewLease_settings (a : Agent) : (s.renewLease a).settings = s.settings := rfl
@[simp] theorem State.renewLease_time (a : Agent) : (s.renewLease a).time = s.time := rfl
@[simp] theorem State.renewLease_ballot (a : Agent) : (s.renewLease a).ballot = s.ballot := rfl
@[simp] theorem State.renewLease_driveOwner (a : Agent) : (s.renewLease a).driveOwner = s.driveOwner := rfl
@[simp] theorem State.renewLease_senseOwner (a : Agent) : (s.renewLease a).senseOwner = s.senseOwner := rfl
@[simp] theorem State.renewLease_drive (a : Agent) : (s.renewLease a).drive = s.drive := rfl
@[simp] theorem State.renewLease_sense (a : Agent) : (s.renewLease a).sense = s.sense := rfl
@[simp] theorem State.renewLease_ports (a : Agent) : (s.renewLease a).ports = s.ports := rfl
@[simp] theorem State.renewLease_resetLow (a : Agent) : (s.renewLease a).resetLow = s.resetLow := rfl
@[simp] theorem State.renewLease_refclk (a : Agent) : (s.renewLease a).refclk = s.refclk := rfl
@[simp] theorem State.renewLease_arisen (a : Agent) : (s.renewLease a).arisen = s.arisen := rfl
@[simp] theorem State.renewLease_freeCount (a : Agent) : (s.renewLease a).freeCount = s.freeCount := rfl
@[simp] theorem State.renewLease_pending (a : Agent) : (s.renewLease a).pending = s.pending := rfl

/-! ## What is read after a write -/

@[simp] theorem State.session_setSession (a b : Agent) (q : Session) :
    (s.setSession a q).session b = if b = a then q else s.session b := Bank.read_write _ _ _ _

@[simp] theorem State.port_setPort (a b : Agent) (x : Port) :
    (s.setPort a x).port b = if b = a then x else s.port b := Bank.read_write _ _ _ _

@[simp] theorem State.line_setLine (d e : Drive) (l : DriveLine) :
    (s.setLine d l).line e = if e = d then l else s.line e := Bank.read_write _ _ _ _

@[simp] theorem State.senseLine_setSenseLine (i j : Sense) (l : SenseLine) :
    (s.setSenseLine i l).senseLine j = if j = i then l else s.senseLine j := Bank.read_write _ _ _ _

@[simp] theorem State.session_notifyEach (n : Cycle) (k : NoticeKind) (who : Agent → Bool) (a : Agent) :
    (s.notifyEach n k who).session a =
      if who a && (s.session a).state.present then (s.session a).offer ⟨k, n⟩ else s.session a := by
  simp [State.notifyEach, State.session]

@[simp] theorem State.session_renewLease (a b : Agent) :
    (s.renewLease a).session b = if b = a then (s.session a).renew else s.session b := by
  simp [State.renewLease]

/-! ## Records that are read through a bank that did not change -/

@[simp] theorem State.port_setSession (a b : Agent) (q : Session) : (s.setSession a q).port b = s.port b := rfl

@[simp] theorem State.port_setLine (d : Drive) (l : DriveLine) (b : Agent) : (s.setLine d l).port b = s.port b := rfl

@[simp] theorem State.port_setSenseLine (i : Sense) (l : SenseLine) (b : Agent) :
    (s.setSenseLine i l).port b = s.port b := rfl

@[simp] theorem State.port_notifyEach (n : Cycle) (k : NoticeKind) (who : Agent → Bool) (b : Agent) :
    (s.notifyEach n k who).port b = s.port b := rfl

@[simp] theorem State.port_renewLease (a b : Agent) : (s.renewLease a).port b = s.port b := rfl

@[simp] theorem State.session_setPort (p a : Agent) (x : Port) : (s.setPort p x).session a = s.session a := rfl

@[simp] theorem State.session_setLine (d : Drive) (l : DriveLine) (a : Agent) :
    (s.setLine d l).session a = s.session a := rfl

@[simp] theorem State.session_setSenseLine (i : Sense) (l : SenseLine) (a : Agent) :
    (s.setSenseLine i l).session a = s.session a := rfl

@[simp] theorem State.session_latch (p a : Agent) (e : PortError) : (s.latch p e).session a = s.session a := rfl

@[simp] theorem State.session_respond (p a : Agent) (r : Response) : (s.respond p r).session a = s.session a := rfl

@[simp] theorem State.session_settle (p a : Agent) : (s.settle p).session a = s.session a := rfl

@[simp] theorem State.line_setPort (p : Agent) (x : Port) (d : Drive) : (s.setPort p x).line d = s.line d := rfl

@[simp] theorem State.line_setSession (a : Agent) (q : Session) (d : Drive) : (s.setSession a q).line d = s.line d := rfl

@[simp] theorem State.line_setSenseLine (i : Sense) (l : SenseLine) (d : Drive) :
    (s.setSenseLine i l).line d = s.line d := rfl

@[simp] theorem State.line_notifyEach (n : Cycle) (k : NoticeKind) (who : Agent → Bool) (d : Drive) :
    (s.notifyEach n k who).line d = s.line d := rfl

@[simp] theorem State.senseLine_setPort (p : Agent) (x : Port) (i : Sense) :
    (s.setPort p x).senseLine i = s.senseLine i := rfl

@[simp] theorem State.senseLine_setSession (a : Agent) (q : Session) (i : Sense) :
    (s.setSession a q).senseLine i = s.senseLine i := rfl

@[simp] theorem State.senseLine_setLine (d : Drive) (l : DriveLine) (i : Sense) :
    (s.setLine d l).senseLine i = s.senseLine i := rfl

@[simp] theorem State.senseLine_notifyEach (n : Cycle) (k : NoticeKind) (who : Agent → Bool) (i : Sense) :
    (s.notifyEach n k who).senseLine i = s.senseLine i := rfl

/-! ## Writing twice -/

@[simp] theorem State.setSession_setSession (a : Agent) (q r : Session) :
    (s.setSession a q).setSession a r = s.setSession a r := by
  simp [State.setSession]

@[simp] theorem State.setPort_setPort (p : Agent) (x y : Port) : (s.setPort p x).setPort p y = s.setPort p y := by
  simp [State.setPort]

end Sys2Proof.Machine
end

