-- ==== Sys2Proof/Laws/Ports.lean ====
section
/-! SUPPORT. The agent port layer: what sampling SELn_N does (R19), and what a row of a transaction does on a port whose pin
has been seen. -/

namespace Sys2Proof.Machine

/-! ## Sampling SELn_N -/

@[simp] theorem State.setPort_port (s : State) (p : Agent) : s.setPort p (s.port p) = s := by
  simp [State.setPort, State.port]

/-- A pin seen low, in a transaction: sampling it again changes nothing. -/
theorem State.samplePort_selected {s : State} {p : Agent} (pin : (s.port p).selected = true)
    (stands : (s.port p).transaction ≠ .idle) : s.samplePort p = s := by
  have same : (s.port p).start (s.attention p) = s.port p := by simp [Port.start, stands, ← pin]
  simp [State.samplePort, pin, same]

/-- A pin seen high, with no transaction: sampling it again changes nothing. -/
theorem State.samplePort_idle {s : State} {p : Agent} (pin : (s.port p).selected = false)
    (stands : (s.port p).transaction = .idle) : s.samplePort p = s := by
  simp [State.samplePort, pin, stands]

/-- A pin seen as it is: sampling it again changes nothing. -/
theorem State.samplePort_seen {s : State} {p : Agent}
    (seen : (s.port p).selected = true ↔ (s.port p).transaction ≠ .idle) : s.samplePort p = s := by
  by_cases stands : (s.port p).transaction = .idle
  · exact State.samplePort_idle (by simpa [stands] using seen) stands
  · exact State.samplePort_selected (seen.2 stands) stands

/-- A rise not seen yet is taken as TRANSACTION_END takes it. -/
theorem State.samplePort_rise {s : State} {p : Agent} (pin : (s.port p).selected = false)
    (stands : (s.port p).transaction ≠ .idle) : s.samplePort p = s.setPort p (s.port p).finish := by
  simp [State.samplePort, pin, stands]

/-- A fall not seen yet is taken as TRANSACTION_START takes it. -/
theorem State.samplePort_fall {s : State} {p : Agent} (pin : (s.port p).selected = true) :
    s.samplePort p = s.setPort p ((s.port p).start (s.attention p)) := by
  simp [State.samplePort, pin]

/-- What a port has seen, it has seen: sampling twice is sampling once. -/
theorem State.samplePort_twice (s : State) (p : Agent) : (s.samplePort p).samplePort p = s.samplePort p := by
  by_cases pin : (s.port p).selected = true
  · rw [State.samplePort_fall pin]
    apply State.samplePort_selected
    · by_cases stands : (s.port p).transaction = .idle <;> simp [Port.start, stands]
    · by_cases stands : (s.port p).transaction = .idle <;> simp [Port.start, stands]
  · rw [Bool.not_eq_true] at pin
    by_cases stands : (s.port p).transaction = .idle
    · rw [State.samplePort_idle pin stands, State.samplePort_idle pin stands]
    · rw [State.samplePort_rise pin stands]
      exact State.samplePort_idle (by simp [Port.finish]) (by simp [Port.finish])

/-- Ports whose pins have been seen: sampling them all changes nothing. -/
theorem State.samplePorts_seen {s : State} (seen : ∀ p, s.samplePort p = s) : s.samplePorts = s := by
  have all : ∀ ports : List Agent, ports.foldl State.samplePort s = s := by
    intro ports
    induction ports with
    | nil => rfl
    | cons p rest ih => simp [seen, ih]
  exact all _

/-! ## Rows of a transaction -/

/-- A frame on a port whose pin has been seen as it is. -/
theorem State.takeFrame_seen {s : State} {p : Agent} (code tag : Byte) (payload : List Byte) (live : s.live = true)
    (seen : (s.port p).selected = true ↔ (s.port p).transaction ≠ .idle) :
    s.takeFrame p code tag payload = s.offerFrame p code tag payload := by
  simp [State.takeFrame, live, State.samplePort_seen seen]

/-- A transaction byte on a port whose pin has been seen low. -/
theorem State.transactionByte_seen {s : State} {p : Agent} (v : Byte) (live : s.live = true)
    (pin : (s.port p).selected = true) (stands : (s.port p).transaction ≠ .idle) :
    s.transactionByte p v = s.chooseAction p v := by
  simp [State.transactionByte, live, State.samplePort_selected pin stands]

/-- A byte on a port whose pin has been seen low. -/
theorem State.shiftByte_seen {s : State} {p : Agent} (v : Byte) (live : s.live = true)
    (pin : (s.port p).selected = true) (stands : (s.port p).transaction ≠ .idle) :
    s.shiftByte p v = s.moveByte p v := by
  simp [State.shiftByte, live, State.samplePort_selected pin stands]

/-- A byte on a port whose pin has been seen high goes nowhere. -/
theorem State.shiftByte_idle {s : State} {p : Agent} (v : Byte) (pin : (s.port p).selected = false)
    (stands : (s.port p).transaction = .idle) : s.shiftByte p v = s := by
  by_cases live : s.live = true
  · simp [State.shiftByte, live, State.samplePort_idle pin stands, State.moveByte, stands]
  · simp [State.shiftByte, live]

end Sys2Proof.Machine
end

