-- ==== Sys2Proof/Laws/Shell.lean ====
section
/-! SUPPORT. What lies outside the blocks (the ports, RESET_N, REFCLK and the queue of commands) is changed by no
operation of a block: the time base, the timetable store, the drive engine, the sense and capture unit, the settings and
ballot unit, the session table and the ownership table. One equation for each operation. -/

namespace Sys2Proof.Machine

/-- What lies outside the blocks. -/
structure Shell where
  ports : Bank Port 4
  resetLow : Bool
  refclk : Bool
  pending : List Instr

def State.shell (s : State) : Shell := ⟨s.ports, s.resetLow, s.refclk, s.pending⟩

/-- An update of any other fields leaves the shell. -/
@[simp] theorem State.shell_update (s : State) (st : Settings) (t : TimeBase) (b : Ballot) (od : Bank (Option Agent) 16)
    (os : Bank (Option Agent) 8) (d : Bank DriveLine 16) (i : Bank SenseLine 8) (q : Bank Session 4) (e : List Event)
    (c : Nat) : (State.mk st t b od os d i q s.ports s.resetLow s.refclk e c s.pending).shell = s.shell := rfl

theorem State.ports_of_shell {s t : State} (h : t.shell = s.shell) : t.ports = s.ports := congrArg Shell.ports h

theorem State.pending_of_shell {s t : State} (h : t.shell = s.shell) : t.pending = s.pending :=
  congrArg Shell.pending h

theorem State.resetLow_of_shell {s t : State} (h : t.shell = s.shell) : t.resetLow = s.resetLow :=
  congrArg Shell.resetLow h

theorem State.refclk_of_shell {s t : State} (h : t.shell = s.shell) : t.refclk = s.refclk := congrArg Shell.refclk h

/-- A fold of operations that leave the shell leaves it. -/
theorem State.shell_foldl {α : Type} (f : State → α → State) (hf : ∀ s x, (f s x).shell = s.shell) (xs : List α)
    (s : State) : (xs.foldl f s).shell = s.shell := by
  induction xs generalizing s with
  | nil => rfl
  | cons x xs ih => rw [List.foldl_cons, ih, hf]

/-- Operations taken in any order leave the shell if each of them does. -/
theorem State.shell_takeInAnyOrder {α : Type} (f : α → State → State) (hf : ∀ x s, (f x s).shell = s.shell) (k : Nat)
    (xs : List α) (s : State) : (takeInAnyOrder f k xs s).shell = s.shell := by
  induction k generalizing xs s with
  | zero => rfl
  | succ k ih =>
    match xs with
    | [] => rfl
    | [x] => exact hf x s
    | x :: y :: rest => simp only [takeInAnyOrder, ih, hf, State.shell_update]

variable (s : State)

/-! ## Setters and notices -/

@[simp] theorem State.setSession_shell (a : Agent) (q : Session) : (s.setSession a q).shell = s.shell := rfl

@[simp] theorem State.setLine_shell (d : Drive) (l : DriveLine) : (s.setLine d l).shell = s.shell := rfl

@[simp] theorem State.setSenseLine_shell (i : Sense) (l : SenseLine) : (s.setSenseLine i l).shell = s.shell := rfl

@[simp] theorem State.notifyEach_shell (n : Cycle) (k : NoticeKind) (who : Agent → Bool) :
    (s.notifyEach n k who).shell = s.shell := rfl

@[simp] theorem State.notify_shell (n : Cycle) (k : NoticeKind) (a : Agent) : (s.notify n k a).shell = s.shell := rfl

@[simp] theorem State.notifyAll_shell (n : Cycle) (k : NoticeKind) : (s.notifyAll n k).shell = s.shell := rfl

@[simp] theorem State.notifyOthers_shell (n : Cycle) (k : NoticeKind) (a : Agent) :
    (s.notifyOthers n k a).shell = s.shell := rfl

/-! ## Drive engine -/

@[simp] theorem State.serveDrive_shell (d : Drive) (act : Action) : (s.serveDrive d act).shell = s.shell := rfl

@[simp] theorem State.notifyResolved_shell (n : Cycle) (d : Drive) (x : Deferred) (b : Bool) :
    (s.notifyResolved n d x b).shell = s.shell := by
  unfold State.notifyResolved
  split <;> simp

@[simp] theorem State.takeDeferral_shell (n : Cycle) (d : Drive) : (s.takeDeferral n d).shell = s.shell := by
  unfold State.takeDeferral
  split
  · rfl
  · split <;> simp

@[simp] theorem State.countdown_shell (n : Cycle) : (s.countdown n).shell = s.shell := by
  unfold State.countdown
  rw [State.shell_foldl _ fun t d => State.takeDeferral_shell t n d]
  rfl

@[simp] theorem State.lapseDeferral_shell (n : Cycle) (d : Drive) : (s.lapseDeferral n d).shell = s.shell := by
  unfold State.lapseDeferral
  split
  · rfl
  · split <;> simp

@[simp] theorem State.lapseDeferrals_shell (n : Cycle) : (s.lapseDeferrals n).shell = s.shell :=
  State.shell_foldl _ (fun t d => State.lapseDeferral_shell t n d) _ s

/-! ## Sense and capture -/

@[simp] theorem State.absorbEdge_shell (i : Sense) : (s.absorbEdge i).shell = s.shell := rfl

@[simp] theorem State.makeRecord_shell (a : Agent) (k : RecordKind) (c : Nat) :
    (s.makeRecord a k c).shell = s.shell := by
  unfold State.makeRecord
  dsimp only
  split <;> split <;> simp

@[simp] theorem State.takeEdge_shell (i : Sense) (e : Edge) : (s.takeEdge i e).shell = s.shell := by
  unfold State.takeEdge
  dsimp only
  split
  · simp
  · split
    · split <;> simp
    · simp

@[simp] theorem State.serveSense_shell (i : Sense) (act : Action) : (s.serveSense i act).shell = s.shell := by
  unfold State.serveSense
  split <;> simp

/-! ## Time base -/

@[simp] theorem State.serve_shell (x : Agent × Entry) : (s.serve x).shell = s.shell := by
  unfold State.serve
  split
  · simp
  · simp
  · split <;> simp

@[simp] theorem State.reach_shell (c : Nat) : (s.reach c).shell = s.shell := by
  unfold State.reach
  rw [State.shell_foldl _ State.serve_shell]
  split <;> rfl

@[simp] theorem State.dropCountAdvance_shell : s.dropCountAdvance.shell = s.shell := rfl

@[simp] theorem State.newCycle_shell : s.newCycle.shell = s.shell := rfl

@[simp] theorem State.beginCycle_shell : s.beginCycle.shell = s.shell := by
  unfold State.beginCycle
  split <;> simp

@[simp] theorem State.enterIdle_shell (run : RunState) : (s.enterIdle run).shell = s.shell := rfl

@[simp] theorem State.examineBudget_shell : s.examineBudget.shell = s.shell := by
  unfold State.examineBudget
  split
  · rfl
  · rw [State.enterIdle_shell]
    rfl
  · rfl

@[simp] theorem State.loadBudget_shell : s.loadBudget.shell = s.shell := rfl

@[simp] theorem State.notifyTimebase_shell (n : Cycle) (c : Cause) : (s.notifyTimebase n c).shell = s.shell := rfl

/-! ## Settings and ballot -/

@[simp] theorem State.reloadPaths_shell (old new : Settings) : (s.reloadPaths old new).shell = s.shell := rfl

@[simp] theorem State.takeRun_shell (run : RunState) : (s.takeRun run).shell = s.shell := by
  unfold State.takeRun
  split
  · rfl
  · split <;> simp

@[simp] theorem State.applySettings_shell (p : Proposal) : (s.applySettings p).shell = s.shell := by
  unfold State.applySettings
  dsimp only
  rw [State.takeRun_shell]
  split <;> rfl

@[simp] theorem State.emptySlot_shell : s.emptySlot.shell = s.shell := rfl

@[simp] theorem State.notifySettings_shell (n : Cycle) (w : Way) : (s.notifySettings n w).shell = s.shell := rfl

@[simp] theorem State.beginIfStarted_shell (r : RunState) : (s.beginIfStarted r).shell = s.shell := by
  unfold State.beginIfStarted
  split <;> simp

@[simp] theorem State.notifyIfChanged_shell (r : RunState) : (s.notifyIfChanged r).shell = s.shell := by
  unfold State.notifyIfChanged
  split <;> simp

@[simp] theorem State.applyIfIdle_shell : s.applyIfIdle.shell = s.shell := by
  unfold State.applyIfIdle
  split
  · split <;> simp
  · rfl
  · rfl

@[simp] theorem State.notifyClosed_shell (n : Cycle) (b : OpenBallot) (r : BallotResult) :
    (s.notifyClosed n b r).shell = s.shell := rfl

@[simp] theorem State.failBallot_shell (n : Cycle) (b : OpenBallot) (r : FailReason) :
    (s.failBallot n b r).shell = s.shell := rfl

@[simp] theorem State.passBallot_shell (n : Cycle) (b : OpenBallot) : (s.passBallot n b).shell = s.shell := rfl

@[simp] theorem State.holdOrPass_shell (n : Cycle) (b : OpenBallot) : (s.holdOrPass n b).shell = s.shell := by
  unfold State.holdOrPass
  split <;> simp

@[simp] theorem State.leaveBallot_shell (n : Cycle) (a : Agent) : (s.leaveBallot n a).shell = s.shell := by
  unfold State.leaveBallot
  split
  · split
    · simp
    · split <;> simp
  · rfl
  · rfl

@[simp] theorem State.expireDeadline_shell : s.expireDeadline.shell = s.shell := by
  unfold State.expireDeadline
  split
  · split <;> simp
  · rfl
  · rfl

/-! ## Session table -/

@[simp] theorem State.clearLines_shell (a : Agent) : (s.clearLines a).shell = s.shell := rfl

@[simp] theorem State.vacate_shell (a : Agent) (after : SessionState) : (s.vacate a after).shell = s.shell := rfl

@[simp] theorem State.tearDown_shell (n : Cycle) (a : Agent) (after : SessionState) (r : LeaveReason) :
    (s.tearDown n a after r).shell = s.shell := by
  unfold State.tearDown
  simp

@[simp] theorem State.tearDownNow_shell (a : Agent) (after : SessionState) (r : LeaveReason) :
    (s.tearDownNow a after r).shell = s.shell := by
  unfold State.tearDownNow
  simp

@[simp] theorem State.expireLease_shell (a : Agent) : (s.expireLease a).shell = s.shell := by
  unfold State.expireLease
  split <;> simp

@[simp] theorem State.resetSession_shell (a : Agent) : (s.resetSession a).shell = s.shell := by
  unfold State.resetSession
  split <;> simp

@[simp] theorem State.renewLease_shell (a : Agent) : (s.renewLease a).shell = s.shell := rfl

/-! ## Exchange and boundary -/

@[simp] theorem State.exchange_shell (n : Cycle) (w : Way) (a : Agent) : (s.exchange n w a).shell = s.shell := rfl

@[simp] theorem State.exchangePending_shell (n : Cycle) (a : Agent) : (State.exchangePending n s a).shell = s.shell := by
  unfold State.exchangePending
  split <;> simp

@[simp] theorem State.closeCycle_shell (n : Cycle) (b : Bool) : (s.closeCycle n b).shell = s.shell := by
  unfold State.closeCycle
  split <;> simp

@[simp] theorem State.exchangeAll_shell (n : Cycle) : (s.exchangeAll n).shell = s.shell :=
  State.shell_foldl _ (fun t a => State.exchangePending_shell t n a) _ s

@[simp] theorem State.applyAtBoundary_shell (n : Cycle) : (s.applyAtBoundary n).shell = s.shell := by
  unfold State.applyAtBoundary
  split <;> simp

@[simp] theorem State.tearDownClosing_shell (n : Cycle) : (s.tearDownClosing n).shell = s.shell :=
  State.shell_takeInAnyOrder _ (fun a t => State.tearDown_shell t n a .closed .closed) _ _ _

@[simp] theorem State.completeBoundary_shell : s.completeBoundary.shell = s.shell := by
  unfold State.completeBoundary
  split
  · rw [State.beginCycle_shell]
    rfl
  · rfl

@[simp] theorem State.notifyBoundary_shell (n : Cycle) (r1 r3 : RunState) :
    (s.notifyBoundary n r1 r3).shell = s.shell := by
  unfold State.notifyBoundary
  split
  · simp
  · split <;> simp

@[simp] theorem State.boundary_shell (b : Bool) : (s.boundary b).shell = s.shell := by
  unfold State.boundary
  simp

@[simp] theorem State.advanceCount_shell : s.advanceCount.shell = s.shell := by
  unfold State.advanceCount
  split
  · dsimp only
    split
    · rw [State.reach_shell, State.shell_update, State.countdown_shell]
      rfl
    · rw [State.boundary_shell]
      rfl
  · rfl

@[simp] theorem State.triggerStart_shell : s.triggerStart.shell = s.shell := by
  unfold State.triggerStart
  simp

@[simp] theorem State.useTrigger_shell : s.useTrigger.shell = s.shell := by
  unfold State.useTrigger
  split <;> simp

@[simp] theorem State.showLevel_shell (i : Sense) (l : Level) : (s.showLevel i l).shell = s.shell := rfl

@[simp] theorem State.takeTriggerEdge_shell : s.takeTriggerEdge.shell = s.shell := by
  unfold State.takeTriggerEdge
  split <;> simp

@[simp] theorem State.useGate_shell (l : Level) : (s.useGate l).shell = s.shell := by
  unfold State.useGate
  split
  · rfl
  · split
    · rfl
    · split
      · dsimp only
        split
        · rfl
        · rw [State.reach_shell]
          rfl
      · rfl

@[simp] theorem State.takeGateChange_shell (l : Level) : (s.takeGateChange l).shell = s.shell := by
  unfold State.takeGateChange
  split <;> simp

end Sys2Proof.Machine
end

