-- ==== Sys2Proof/Laws/Commands.lean ====
section
/-! SUPPORT. What a command of an owning block leaves outside the blocks, what a frame does on a port that takes it, and
the codes of the commands. -/

namespace Sys2Proof.Machine

variable (s : State)

/-! ## No owning block touches a port, a reset, a clock or the queue of commands -/

@[simp] theorem State.takeOpen_shell (a : Agent) (bs : List Byte) : (s.takeOpen a bs).1.shell = s.shell := by
  unfold State.takeOpen
  dsimp only
  split <;> simp

@[simp] theorem State.takeRenew_shell (a : Agent) (bs : List Byte) : (s.takeRenew a bs).1.shell = s.shell := by
  unfold State.takeRenew
  dsimp only
  split
  · rfl
  · split <;> simp

@[simp] theorem State.takeCloseAtBoundary_shell (a : Agent) : (s.takeCloseAtBoundary a).1.shell = s.shell := by
  unfold State.takeCloseAtBoundary
  dsimp only
  split <;> simp

@[simp] theorem State.takeClose_shell (a : Agent) (bs : List Byte) : (s.takeClose a bs).1.shell = s.shell := by
  unfold State.takeClose
  split
  · exact State.tearDownNow_shell s a .closed .closed
  · simp
  · rfl

@[simp] theorem State.takeReserve_shell (a : Agent) (bs : List Byte) : (s.takeReserve a bs).1.shell = s.shell := by
  unfold State.takeReserve
  dsimp only
  split
  · rfl
  · split <;> rfl

@[simp] theorem State.takeRelease_shell (a : Agent) (bs : List Byte) : (s.takeRelease a bs).1.shell = s.shell := by
  unfold State.takeRelease
  dsimp only
  split
  · rfl
  · split <;> rfl

@[simp] theorem State.setStaging_shell (a : Agent) (list : List Entry) : (s.setStaging a list).shell = s.shell := rfl

@[simp] theorem State.takeStage_shell (a : Agent) (bs : List Byte) : (s.takeStage a bs).1.shell = s.shell := by
  unfold State.takeStage
  dsimp only
  repeat' split
  all_goals simp

@[simp] theorem State.takeAmend_shell (a : Agent) (bs : List Byte) : (s.takeAmend a bs).1.shell = s.shell := by
  unfold State.takeAmend
  dsimp only
  repeat' split
  all_goals simp

@[simp] theorem State.takeWithdraw_shell (a : Agent) (bs : List Byte) : (s.takeWithdraw a bs).1.shell = s.shell := by
  unfold State.takeWithdraw
  dsimp only
  repeat' split
  all_goals simp

@[simp] theorem State.takeClear_shell (a : Agent) : (s.takeClear a).1.shell = s.shell := by
  unfold State.takeClear
  dsimp only
  split <;> simp

@[simp] theorem State.takeReadStaged_shell (a : Agent) (bs : List Byte) :
    (s.takeReadStaged a bs).1.shell = s.shell := by
  unfold State.takeReadStaged
  dsimp only
  split <;> rfl

@[simp] theorem State.takeReadActive_shell (bs : List Byte) : (s.takeReadActive bs).1.shell = s.shell := by
  unfold State.takeReadActive
  split <;> rfl

@[simp] theorem State.takeCommit_shell (a : Agent) : (s.takeCommit a).1.shell = s.shell := by
  unfold State.takeCommit
  dsimp only
  repeat' split
  all_goals simp

@[simp] theorem State.takeAbandon_shell (a : Agent) : (s.takeAbandon a).1.shell = s.shell := by
  unfold State.takeAbandon
  dsimp only
  split <;> simp

@[simp] theorem State.takeForce_shell (a : Agent) (bs : List Byte) : (s.takeForce a bs).1.shell = s.shell := by
  unfold State.takeForce
  dsimp only
  repeat' split
  all_goals simp

@[simp] theorem State.takeUnforce_shell (a : Agent) (bs : List Byte) : (s.takeUnforce a bs).1.shell = s.shell := by
  unfold State.takeUnforce
  dsimp only
  repeat' split
  all_goals simp

@[simp] theorem State.takeSetSense_shell (a : Agent) (bs : List Byte) : (s.takeSetSense a bs).1.shell = s.shell := by
  unfold State.takeSetSense
  dsimp only
  repeat' split
  all_goals simp

@[simp] theorem State.takeArming_shell (a : Agent) (bs : List Byte) (act : Action) :
    (s.takeArming a bs act).1.shell = s.shell := by
  unfold State.takeArming
  dsimp only
  repeat' split
  all_goals simp

@[simp] theorem State.takeReadCaptures_shell (a : Agent) (bs : List Byte) :
    (s.takeReadCaptures a bs).1.shell = s.shell := by
  unfold State.takeReadCaptures
  dsimp only
  split <;> simp

@[simp] theorem State.takeReadNotices_shell (a : Agent) (bs : List Byte) :
    (s.takeReadNotices a bs).1.shell = s.shell := by
  unfold State.takeReadNotices
  dsimp only
  repeat' split
  all_goals simp

@[simp] theorem State.acceptProposal_shell (b : OpenBallot) : (s.acceptProposal b).shell = s.shell := by
  unfold State.acceptProposal
  dsimp only
  split
  · simp only [State.applyIfIdle_shell, State.passBallot_shell]
    rfl
  · rfl

@[simp] theorem State.takePropose_shell (a : Agent) (bs : List Byte) : (s.takePropose a bs).1.shell = s.shell := by
  unfold State.takePropose State.proposeOnEmpty
  dsimp only
  repeat' split
  all_goals simp

@[simp] theorem State.takeVote_shell (a : Agent) (bs : List Byte) : (s.takeVote a bs).1.shell = s.shell := by
  unfold State.takeVote State.voteOn State.acceptVote
  dsimp only
  repeat' split
  all_goals simp

@[simp] theorem State.takeRetract_shell (a : Agent) (bs : List Byte) : (s.takeRetract a bs).1.shell = s.shell := by
  unfold State.takeRetract
  repeat' split
  all_goals simp

/-- No command changes a port, RESET_N, REFCLK or the queue of commands. -/
@[simp] theorem State.take_shell (a : Agent) (bs : List Byte) (c : Command) : (s.take a bs c).1.shell = s.shell := by
  cases c
  case status => rfl
  case readSettings => rfl
  case readBallot => rfl
  all_goals simp [State.take]

@[simp] theorem State.answer_shell (a : Agent) (code : Byte) (bs : List Byte) :
    (s.answer a code bs).1.shell = s.shell := by
  unfold State.answer
  split
  · rfl
  · split <;> simp

/-! ## Command codes -/

@[simp] theorem Command.ofCode_code (c : Command) : Command.ofCode c.code = some c := by
  cases c <;> rfl

/-! ## A frame on a port that takes it -/

/-- The one thing a frame can do on a port that takes frames and has room, if its payload fits: it is executed. -/
theorem State.takeFrame_eq {s : State} {p : Agent} {payload : List Byte} (code tag : Byte)
    (live : s.live = true) (seen : (s.port p).selected = true ↔ (s.port p).transaction ≠ .idle)
    (listening : (s.port p).transaction.awaitsFrame = true) (room : (s.port p).responses.length < 4) (fits : payload.length ≤ 60) :
    s.takeFrame p code tag payload = (s.settle p).executeFrame p code tag payload := by
  have h1 : ¬ Config.payloadLimit < payload.length := by
    simpa [Config.payloadLimit] using fits
  have h2 : ¬ Config.responseCapacity ≤ (s.port p).responses.length := by
    simpa [Config.responseCapacity] using room
  simp [State.takeFrame_seen code tag payload live seen, State.offerFrame, listening, State.deliverFrame, h1, h2]

/-- A frame that fails a check of R166 changes only its port and its session's lease. -/
theorem State.executeFrame_refused {s : State} {p : Agent} {code : Byte} {payload : List Byte} {status : Status}
    (tag : Byte) (h : frameRefusal code payload ((s.session p).renew).state = some status) :
    s.executeFrame p code tag payload = (s.renewLease p).respond p ⟨tag, code, status, .none⟩ := by
  simp [State.executeFrame, State.answer, h, refuse]

/-- A frame that passes the checks of R166 is taken by its owning block. -/
theorem State.executeFrame_taken {s : State} {p : Agent} {c : Command} {payload : List Byte} (tag : Byte)
    (h : frameRefusal c.code payload ((s.session p).renew).state = none) :
    s.executeFrame p c.code tag payload =
      ((s.renewLease p).take p payload c).1.respond p
        ⟨tag, c.code, ((s.renewLease p).take p payload c).2.status, ((s.renewLease p).take p payload c).2.data⟩ := by
  simp [State.executeFrame, State.answer, h]

@[simp] theorem Session.renew_state (q : Session) : q.renew.state = q.state := by
  unfold Session.renew
  split <;> rfl

end Sys2Proof.Machine
end

