-- ==== Sys2Proof/Laws/Accepted.lean ====
section
/-! SUPPORT. What a frame does on a port that accepts it, in the terms the statements use, and what the lease renewal
leaves of a session. -/

namespace Sys2Proof.Machine

/-! ## A session renewed (R23) -/

section

variable (q : Session)

@[simp] theorem Session.renew_epoch : q.renew.epoch = q.epoch := by unfold Session.renew; split <;> rfl

@[simp] theorem Session.renew_commit : q.renew.commit = q.commit := by unfold Session.renew; split <;> rfl

@[simp] theorem Session.renew_staging : q.renew.staging = q.staging := by unfold Session.renew; split <;> rfl

@[simp] theorem Session.renew_active : q.renew.active = q.active := by unfold Session.renew; split <;> rfl

@[simp] theorem Session.renew_applied : q.renew.applied = q.applied := by unfold Session.renew; split <;> rfl

@[simp] theorem Session.renew_captures : q.renew.captures = q.captures := by unfold Session.renew; split <;> rfl

@[simp] theorem Session.renew_sequence : q.renew.sequence = q.sequence := by unfold Session.renew; split <;> rfl

@[simp] theorem Session.renew_lostSense : q.renew.lostSense = q.lostSense := by unfold Session.renew; split <;> rfl

@[simp] theorem Session.renew_lostMarker : q.renew.lostMarker = q.lostMarker := by unfold Session.renew; split <;> rfl

@[simp] theorem Session.renew_overrun : q.renew.overrun = q.overrun := by unfold Session.renew; split <;> rfl

@[simp] theorem Session.renew_notices : q.renew.notices = q.notices := by unfold Session.renew; split <;> rfl

@[simp] theorem Session.renew_lostNotices : q.renew.lostNotices = q.lostNotices := by
  unfold Session.renew; split <;> rfl

@[simp] theorem Session.renew_firstLoss : q.renew.firstLoss = q.firstLoss := by unfold Session.renew; split <;> rfl

end

/-! ## The state that reaches the owning block -/

section

variable (s : State) (p : Agent)

@[simp] theorem State.settled_line (d : Drive) : ((s.settle p).renewLease p).line d = s.line d := rfl

@[simp] theorem State.settled_senseLine (i : Sense) : ((s.settle p).renewLease p).senseLine i = s.senseLine i := rfl

theorem State.settled_session (b : Agent) :
    ((s.settle p).renewLease p).session b = if b = p then (s.session p).renew else s.session b := by
  by_cases h : b = p
  · subst h
    simp
  · simp [h, State.renewLease, State.setSession, State.session, State.settle, State.setPort, Bank.read_write]

end

/-! ## A frame on a port that accepts it -/

theorem State.Accepts.takeFrame_eq {s : State} {p : Agent} {payload : List Byte} (code tag : Byte) (h : s.Accepts p)
    (fits : payload.length ≤ 60) : s.takeFrame p code tag payload = (s.settle p).executeFrame p code tag payload :=
  State.takeFrame_eq code tag h.live h.seen h.listening h.room fits

/-- A frame that passes the checks of R166 is taken by its owning block and answered. -/
theorem State.takeFrame_taken {s : State} {p : Agent} {payload : List Byte} (c : Command) (tag : Byte)
    (h : s.Accepts p) (fits : payload.length ≤ 60)
    (ok : frameRefusal c.code payload (s.session p).state = none) :
    s.takeFrame p c.code tag payload =
      (((s.settle p).renewLease p).take p payload c).1.respond p
        ⟨tag, c.code, (((s.settle p).renewLease p).take p payload c).2.status,
          (((s.settle p).renewLease p).take p payload c).2.data⟩ := by
  rw [h.takeFrame_eq c.code tag fits, State.executeFrame_taken]
  simpa using ok

/-- A frame that fails a check of R166 is answered, and renews the lease. -/
theorem State.takeFrame_refused {s : State} {p : Agent} {payload : List Byte} {code : Byte} {status : Status}
    (tag : Byte) (h : s.Accepts p) (fits : payload.length ≤ 60)
    (ok : frameRefusal code payload (s.session p).state = some status) :
    s.takeFrame p code tag payload = s.answered p ⟨tag, code, status, .none⟩ := by
  rw [h.takeFrame_eq code tag fits, State.executeFrame_refused (status := status)]
  · rfl
  · simpa using ok

/-- A frame past the frame of its transaction, or in a transaction that carries none, changes nothing (R163, R170). -/
theorem State.takeFrame_past {s : State} {p : Agent} (code tag : Byte) (payload : List Byte)
    (pin : (s.port p).selected = true) (past : (s.port p).transaction.awaitsFrame = false) :
    s.takeFrame p code tag payload = s := by
  have stands : (s.port p).transaction ≠ .idle := by
    intro idle
    simp [idle, Transaction.awaitsFrame] at past
  simp [State.takeFrame, State.samplePort_selected pin stands, State.offerFrame, past]

/-- In an OPEN session, a command of a permitted length passes the checks, but for OPEN itself (R22). -/
theorem frameRefusal_open {q : SessionState} {c : Command} {payload : List Byte} (h : q = .openState)
    (length : c.lengths.contains payload.length = true) (other : c ≠ .openSession) :
    frameRefusal c.code payload q = none := by
  subst h
  have row : (c.row payload).refusal .openState = none := by
    cases c <;> first | exact absurd rfl other | rfl | (simp only [Command.row]; split <;> rfl)
  have member : payload.length ∈ c.lengths := by simpa using length
  simp [frameRefusal, member, row]

end Sys2Proof.Machine
end

