-- ==== Sys2Proof/Laws/Events.lean ====
section
/-! SUPPORT. What taking events does to the events that still stand: no operation that serves one adds to them, but for
a lease clock advance, whose five expiries are counted; so a REFCLK period takes everything that stands (log entry 5).
-/

namespace Sys2Proof.Machine

/-- Nothing more stands to be taken in `t` than in `s`: no event has arisen, and no lease or deadline has run out.
REFCLK and RESET_N are as they were. -/
structure State.Calm (s t : State) : Prop where
  live : t.live = s.live
  arisen : t.arisen.Sublist s.arisen
  leases : ∀ a, (t.session a).leaseOut = true → (s.session a).leaseOut = true
  deadline : t.deadlineOut = true → s.deadlineOut = true

namespace State.Calm

theorem refl (s : State) : s.Calm s := ⟨rfl, .refl _, fun _ h => h, fun h => h⟩

theorem trans {s t u : State} (h : s.Calm t) (k : t.Calm u) : s.Calm u :=
  ⟨k.live.trans h.live, k.arisen.trans h.arisen, fun a x => h.leases a (k.leases a x),
    fun x => h.deadline (k.deadline x)⟩

/-- An operation that leaves sessions and slot alone, and adds no event. -/
theorem of_same {s t : State} (live : t.live = s.live) (arisen : t.arisen.Sublist s.arisen)
    (sessions : t.sessions = s.sessions) (slot : t.ballot.slot = s.ballot.slot) : s.Calm t :=
  ⟨live, arisen, fun a h => by simpa [State.session, sessions] using h,
    fun h => by simpa [State.deadlineOut, slot] using h⟩

/-- The same, before an operation that is known. -/
theorem same_then {s t u : State} (k : t.Calm u) (live : t.live = s.live) (arisen : t.arisen.Sublist s.arisen)
    (sessions : t.sessions = s.sessions) (slot : t.ballot.slot = s.ballot.slot) : s.Calm u :=
  (of_same live arisen sessions slot).trans k

theorem foldl {α : Type} {f : State → α → State} (h : ∀ (s : State) (x : α), s.Calm (f s x)) (xs : List α) (s : State) :
    s.Calm (xs.foldl f s) := by
  induction xs generalizing s with
  | nil => exact State.Calm.refl s
  | cons x xs ih => exact (h s x).trans (ih _)

end State.Calm

open State.Calm

/-! ## The operations of the blocks -/

theorem Session.leaseOut_offer (q : Session) (x : Notice) : (q.offer x).leaseOut = q.leaseOut := by
  unfold Session.offer
  split <;> rfl

variable (s : State)

theorem State.calm_notifyEach (n : Cycle) (k : NoticeKind) (who : Agent → Bool) : s.Calm (s.notifyEach n k who) := by
  refine ⟨rfl, .refl _, fun a h => ?_, fun h => h⟩
  rw [State.session_notifyEach] at h
  split at h
  · rwa [Session.leaseOut_offer] at h
  · exact h

theorem State.calm_setSession (a : Agent) (q : Session) (h : q.leaseOut = true → (s.session a).leaseOut = true) :
    s.Calm (s.setSession a q) := by
  refine ⟨rfl, .refl _, fun b k => ?_, fun h => h⟩
  rw [State.session_setSession] at k
  split at k
  · next e => subst e; exact h k
  · exact k

theorem State.calm_makeRecord (a : Agent) (kind : RecordKind) (count : Nat) : s.Calm (s.makeRecord a kind count) := by
  unfold State.makeRecord
  dsimp only
  split
  · split
    · refine State.Calm.trans ?_ (State.calm_notifyEach _ _ _ _)
      exact s.calm_setSession a _ fun h => h
    · exact s.calm_setSession a _ fun h => h
  · have loss : s.Calm (s.setSession a { (s.session a).countLoss kind.source with
        sequence := (s.session a).sequenceAfterDrop, overrun := true }) := by
      refine s.calm_setSession a _ fun h => ?_
      cases kind <;> exact h
    split
    · exact loss
    · exact loss.trans (State.calm_notifyEach _ _ _ _)

theorem State.calm_serve (x : Agent × Entry) : s.Calm (s.serve x) := by
  unfold State.serve
  split
  · exact of_same rfl (.refl _) rfl rfl
  · unfold State.serveSense
    split <;> exact of_same rfl (.refl _) rfl rfl
  · split
    · exact s.calm_makeRecord _ _ _
    all_goals exact State.Calm.refl s

theorem State.calm_reach (count : Nat) : s.Calm (s.reach count) := by
  unfold State.reach
  split
  · exact same_then (foldl State.calm_serve _ _) rfl (.refl _) rfl rfl
  · exact foldl State.calm_serve _ _

theorem State.calm_beginCycle : s.Calm s.beginCycle := by
  have new : s.Calm s.newCycle := of_same rfl List.filter_sublist rfl rfl
  unfold State.beginCycle
  split
  · exact new.trans (State.calm_reach _ _)
  · exact new

theorem State.calm_enterIdle (run : RunState) : s.Calm (s.enterIdle run) := of_same rfl List.filter_sublist rfl rfl

theorem State.calm_notifyResolved (n : Cycle) (d : Drive) (x : Deferred) (taken : Bool) :
    s.Calm (s.notifyResolved n d x taken) := by
  unfold State.notifyResolved
  split
  · exact State.Calm.refl s
  · exact s.calm_notifyEach _ _ _

theorem State.calm_countdown (n : Cycle) : s.Calm (s.countdown n) := by
  refine same_then (foldl (fun t d => ?_) _ _) rfl (.refl _) rfl rfl
  unfold State.takeDeferral
  split
  · exact State.Calm.refl t
  · split
    · exact State.Calm.refl t
    · exact same_then (State.calm_notifyResolved _ _ _ _ _) rfl (.refl _) rfl rfl

theorem State.calm_lapseDeferrals (n : Cycle) : s.Calm (s.lapseDeferrals n) := by
  refine foldl (fun t d => ?_) _ _
  unfold State.lapseDeferral
  split
  · exact State.Calm.refl t
  · split
    · exact State.Calm.refl t
    · exact same_then (State.calm_notifyResolved _ _ _ _ _) rfl (.refl _) rfl rfl

theorem State.calm_examineBudget : s.Calm s.examineBudget := by
  unfold State.examineBudget
  split
  · exact State.Calm.refl s
  · exact same_then (State.calm_enterIdle _ _) rfl (.refl _) rfl rfl
  · exact of_same rfl (.refl _) rfl rfl

theorem State.calm_exchangeAll (n : Cycle) : s.Calm (s.exchangeAll n) := by
  refine foldl (fun t a => ?_) _ _
  unfold State.exchangePending
  split
  · exact State.Calm.refl t
  · refine State.Calm.trans ?_ (State.calm_notifyEach _ _ _ _)
    exact t.calm_setSession a _ fun h => h

theorem State.calm_applySettings (p : Proposal) : s.Calm (s.applySettings p) := by
  unfold State.applySettings
  dsimp only
  have step : ∀ (t : State) (run : RunState), t.Calm (t.takeRun run) := by
    intro t run
    unfold State.takeRun
    split
    · exact of_same rfl (.refl _) rfl rfl
    · split
      · exact State.Calm.refl t
      · exact t.calm_enterIdle run
  refine State.Calm.trans ?_ (step _ _)
  split
  · exact of_same rfl List.filter_sublist rfl rfl
  · exact of_same rfl List.filter_sublist rfl rfl

theorem State.calm_emptySlot : s.Calm s.emptySlot := ⟨rfl, .refl _, fun _ h => h, fun h => by cases h⟩

theorem State.calm_applyIfIdle : s.Calm s.applyIfIdle := by
  unfold State.applyIfIdle
  split
  · next p _ =>
    split
    · exact State.Calm.refl s
    · refine State.Calm.trans ?_ (State.calm_notifyEach _ _ _ _)
      have begun : s.Calm (((s.applySettings p).beginIfStarted s.time.run).emptySlot) := by
        refine State.Calm.trans ((s.calm_applySettings p).trans ?_) (State.calm_emptySlot _)
        unfold State.beginIfStarted
        split
        · exact State.calm_beginCycle _
        · exact State.Calm.refl _
      unfold State.notifyIfChanged
      split
      · exact begun
      · exact begun.trans (State.calm_notifyEach _ _ _ _)
  · exact State.Calm.refl s
  · exact State.Calm.refl s

theorem State.calm_failBallot (n : Cycle) (b : OpenBallot) (r : FailReason) : s.Calm (s.failBallot n b r) :=
  ⟨rfl, .refl _, (s.calm_notifyEach _ _ _).leases, fun h => by cases h⟩

theorem State.calm_leaveBallot (n : Cycle) (a : Agent) : s.Calm (s.leaveBallot n a) := by
  unfold State.leaveBallot
  split
  · next b h =>
    split
    · exact s.calm_failBallot _ _ _
    · split
      · unfold State.holdOrPass
        split
        · exact ⟨rfl, .refl _, (s.calm_notifyEach _ _ _).leases, fun h => by cases h⟩
        · exact ⟨rfl, .refl _, fun _ h => h, fun k => by simpa [State.deadlineOut, h] using k⟩
      · exact State.Calm.refl s
  · exact State.Calm.refl s
  · exact State.Calm.refl s

theorem State.calm_vacate (a : Agent) (after : SessionState) : s.Calm (s.vacate a after) :=
  s.calm_setSession a _ fun h => by simp [Session.vacant, Session.leaseOut] at h

theorem State.calm_tearDown_rest (n : Cycle) (a : Agent) (after : SessionState) (reason : LeaveReason) :
    ((s.clearLines a).vacate a after).Calm (s.tearDown n a after reason) :=
  (State.calm_leaveBallot _ n a).trans (State.calm_notifyEach _ _ _ _)

theorem State.calm_tearDown (n : Cycle) (a : Agent) (after : SessionState) (reason : LeaveReason) :
    s.Calm (s.tearDown n a after reason) :=
  same_then (t := s.clearLines a) (((s.clearLines a).calm_vacate a after).trans (s.calm_tearDown_rest n a after reason))
    rfl (.refl _) rfl rfl

theorem State.calm_takeInAnyOrder {α : Type} {f : α → State → State}
    (h : ∀ (x : α) (t : State), t.Calm (f x t)) (fuel : Nat) (xs : List α) : s.Calm (takeInAnyOrder f fuel xs s) := by
  induction fuel generalizing s xs with
  | zero => exact State.Calm.refl s
  | succ fuel ih =>
    match xs with
    | [] => exact State.Calm.refl s
    | [x] => exact h x s
    | x :: y :: rest =>
      refine State.Calm.trans ?_ (ih _ _)
      exact same_then (h _ _) rfl (.refl _) rfl rfl

theorem State.calm_boundary (normal : Bool) : s.Calm (s.boundary normal) := by
  unfold State.boundary
  dsimp only
  have close : s.Calm (s.closeCycle s.cycleAfterBoundary normal) := by
    unfold State.closeCycle
    cases normal
    · exact s.calm_examineBudget
    · exact (s.calm_countdown _).trans (State.calm_examineBudget _)
  have apply : ∀ (t : State) (n : Cycle), t.Calm (t.applyAtBoundary n) := by
    intro t n
    unfold State.applyAtBoundary
    split
    · exact (t.calm_applySettings _).trans ((State.calm_emptySlot _).trans (State.calm_notifyEach _ _ _ _))
    · exact State.Calm.refl t
    · exact State.Calm.refl t
  have complete : ∀ t : State, t.Calm t.completeBoundary := by
    intro t
    unfold State.completeBoundary
    split
    · exact same_then (State.calm_beginCycle _) rfl (.refl _) rfl rfl
    · exact State.Calm.refl t
  have tell : ∀ (t : State) (n : Cycle) (r1 r3 : RunState), t.Calm (t.notifyBoundary n r1 r3) := by
    intro t n r1 r3
    unfold State.notifyBoundary
    split
    · exact t.calm_notifyEach _ _ _
    · split
      · exact State.Calm.refl t
      · exact t.calm_notifyEach _ _ _
  exact close.trans ((State.calm_exchangeAll _ _).trans ((apply _ _).trans
    ((State.calm_takeInAnyOrder _ (fun a t => t.calm_tearDown _ a _ _) 4 _).trans
      ((State.calm_lapseDeferrals _ _).trans ((complete _).trans (tell _ _ _ _))))))

theorem State.calm_advanceCount : s.Calm s.advanceCount := by
  unfold State.advanceCount
  split
  · have first : s.Calm { s with time := { s.time with phase := 0 } } := of_same rfl (.refl _) rfl rfl
    dsimp only
    split
    · have counted := first.trans (State.calm_countdown _ s.time.cycle)
      generalize State.countdown s.time.cycle _ = t at counted ⊢
      exact counted.trans (same_then (State.calm_reach _ _) rfl (.refl _) rfl rfl)
    · exact first.trans (State.calm_boundary _ true)
  · exact State.Calm.refl s

theorem State.calm_takeTriggerEdge : s.Calm s.takeTriggerEdge := by
  unfold State.takeTriggerEdge
  split
  · exact State.Calm.refl s
  · next i _ =>
    refine same_then (t := { s.showLevel i .high with time := { s.time with trigger := .at_ .high } }) ?_
      rfl (.refl _) rfl rfl
    generalize ({ s.showLevel _ .high with time := { s.time with trigger := Path.at_ .high } } : State) = t
    unfold State.useTrigger
    split
    · unfold State.triggerStart
      dsimp only
      refine State.Calm.trans ?_ (State.calm_notifyEach _ _ _ _)
      exact same_then (State.calm_beginCycle _) rfl (.refl _) rfl rfl
    · exact t.calm_boundary false
    all_goals exact State.Calm.refl _

theorem State.calm_takeGateChange (level : Level) : s.Calm (s.takeGateChange level) := by
  unfold State.takeGateChange
  split
  · exact State.Calm.refl s
  · next i _ =>
    refine same_then (t := { s.showLevel i level with time := { s.time with gate := .at_ level } }) ?_
      rfl (.refl _) rfl rfl
    generalize ({ s.showLevel _ level with time := { s.time with gate := Path.at_ level } } : State) = t
    unfold State.useGate
    split
    · exact State.Calm.refl t
    · split
      · exact of_same rfl List.filter_sublist rfl rfl
      · split
        · dsimp only
          split
          · exact of_same rfl (.refl _) rfl rfl
          · exact same_then (State.calm_reach _ _) rfl (.refl _) rfl rfl
        · exact State.Calm.refl t

theorem State.calm_takeEdge (i : Sense) (e : Edge) : s.Calm (s.takeEdge i e) := by
  unfold State.takeEdge
  dsimp only
  split
  · exact of_same rfl (.refl _) rfl rfl
  · split
    · split
      · exact of_same rfl (.refl _) rfl rfl
      · exact same_then (State.calm_makeRecord _ _ _ _) rfl (.refl _) rfl rfl
    · exact of_same rfl (.refl _) rfl rfl

theorem State.calm_expireLease (a : Agent) : s.Calm (s.expireLease a) := by
  unfold State.expireLease
  split
  · exact (s.calm_tearDown _ a _ _).trans (State.calm_applyIfIdle _)
  · exact State.Calm.refl s

theorem State.calm_expireDeadline : s.Calm s.expireDeadline := by
  unfold State.expireDeadline
  split
  · split
    · exact s.calm_failBallot _ _ _
    · exact State.Calm.refl s
  · exact State.Calm.refl s
  · exact State.Calm.refl s

theorem State.calm_expire (e : Event) : s.Calm (s.expire e) := by
  cases e
  · exact State.Calm.refl s
  · exact State.Calm.refl s
  · exact State.Calm.refl s
  · exact State.Calm.refl s
  · exact State.Calm.refl s
  · exact s.calm_expireLease _
  · exact s.calm_expireDeadline

theorem State.calm_takeAll {take : Event → State → State} (untaken : State → List Event)
    (h : ∀ (e : Event) (t : State), t.Calm (take e t)) (fuel : Nat) : s.Calm (takeAll take untaken fuel s) := by
  induction fuel generalizing s with
  | zero => exact State.Calm.refl s
  | succ fuel ih =>
    unfold takeAll
    split
    · exact State.Calm.refl s
    · exact (h _ s).trans (ih _)
    · refine State.Calm.trans ?_ (ih _)
      exact same_then (h _ _) rfl (.refl _) rfl rfl

/-- Taking any event but a lease clock advance brings nothing about. -/
theorem State.calm_perform (e : Event) (other : e ≠ .leaseClockAdvance) : s.Calm (s.perform e) := by
  cases e
  · exact s.calm_advanceCount
  · exact s.calm_takeTriggerEdge
  · exact s.calm_takeGateChange _
  · exact s.calm_takeEdge _ _
  · exact absurd rfl other
  · exact s.calm_expireLease _
  · exact s.calm_expireDeadline

/-! ## Nothing is left -/

/-- No expiry stands in the later state that did not stand in the earlier one. -/
theorem State.Calm.expiries {s t : State} (h : s.Calm t) : t.expiries.Sublist s.expiries := by
  unfold State.expiries
  refine List.Sublist.append (List.Sublist.map _ (List.monotone_filter_right _ h.leases)) ?_
  cases k : t.deadlineOut
  · exact List.nil_sublist _
  · rw [h.deadline k]

theorem State.mem_expiries (e : Event) : e ∈ s.expiries ↔
    (∃ a, e = .leaseExpiry a ∧ (s.session a).leaseOut = true) ∨ (e = .deadlineExpiry ∧ s.deadlineOut = true) := by
  unfold State.expiries
  simp only [List.mem_append, List.mem_map, List.mem_filter, List.mem_finRange, true_and]
  cases s.deadlineOut <;> simp [and_comm, @eq_comm _ e]

theorem State.expiries_length : s.expiries.length ≤ 5 := by
  unfold State.expiries
  have := List.length_filter_le (fun a => (s.session a).leaseOut) (List.finRange 4)
  simp only [List.length_append, List.length_map, List.length_finRange] at *
  split <;> simp <;> omega

/-- An expiry that is taken stands no longer. -/
theorem State.not_mem_expiries_perform (e : Event) (h : e ∈ s.expiries) : e ∉ (s.perform e).expiries := by
  rw [State.mem_expiries] at h ⊢
  rcases h with ⟨a, rfl, out⟩ | ⟨rfl, out⟩
  · rintro (⟨b, eq, k⟩ | ⟨eq, _⟩)
    · cases eq
      have rest : ((s.clearLines a).vacate a .expired).Calm (s.perform (.leaseExpiry a)) := by
        show State.Calm _ (s.expireLease a)
        unfold State.expireLease
        rw [if_pos out]
        exact (s.calm_tearDown_rest _ a _ _).trans (State.calm_applyIfIdle _)
      have := rest.leases a k
      simp [State.vacate, Session.vacant, Session.leaseOut] at this
    · cases eq
  · rintro (⟨b, eq, _⟩ | ⟨_, k⟩)
    · cases eq
    · change (s.expireDeadline).deadlineOut = true at k
      unfold State.deadlineOut at out
      unfold State.expireDeadline at k
      split at out
      · next b e =>
        simp only [e] at k
        rw [if_pos (by simpa using out)] at k
        cases k
      · cases out
      · cases out

/-- A bound on how many events can be taken: a lease clock advance can bring five expiries. -/
def State.load (s : State) : Nat :=
  s.arisen.length + s.expiries.length + if Event.leaseClockAdvance ∈ s.arisen then 5 else 0

theorem State.calm_load {s t : State} (h : s.Calm t) : t.load ≤ s.load := by
  have a := h.arisen.length_le
  have b := h.expiries.length_le
  unfold State.load
  split
  · next k => rw [if_pos (h.arisen.subset k)]; omega
  · omega

theorem State.live_takeEvent (e : Event) : (s.takeEvent e).live = s.live := by
  have rest : s.Calm { s with arisen := s.arisen.filter fun f => f != e } := of_same rfl List.filter_sublist rfl rfl
  by_cases lca : e = .leaseClockAdvance
  · subst lca
    exact ((rest.trans (State.calm_takeAll _ State.expiries (fun e t => t.calm_expire e) 5))).live
  · exact (rest.trans (State.calm_perform _ e lca)).live

/-- Every event that is taken leaves fewer to be taken. -/
theorem State.load_takeEvent (e : Event) (h : e ∈ s.untaken) : (s.takeEvent e).load < s.load := by
  have rest : s.Calm { s with arisen := s.arisen.filter fun f => f != e } := of_same rfl List.filter_sublist rfl rfl
  by_cases lca : e = .leaseClockAdvance
  · subst lca
    have mem : Event.leaseClockAdvance ∈ s.arisen := by
      rcases List.mem_append.1 h with h | h
      · exact h
      · simp [State.mem_expiries] at h
    have gone : (s.arisen.filter fun f => f != .leaseClockAdvance).length < s.arisen.length :=
      List.length_filter_lt_length_iff_exists.2 ⟨_, mem, by simp⟩
    have sub : (s.takeEvent .leaseClockAdvance).arisen.Sublist (s.arisen.filter fun f => f != .leaseClockAdvance) :=
      (State.calm_takeAll _ State.expiries (fun e t => t.calm_expire e) 5).arisen
    have five := State.expiries_length (s.takeEvent .leaseClockAdvance)
    have len := sub.length_le
    have none : Event.leaseClockAdvance ∉ (s.takeEvent .leaseClockAdvance).arisen := by
      intro k
      have := sub.subset k
      simp at this
    unfold State.load
    rw [if_neg none, if_pos mem]
    omega
  · have calm : ({ s with arisen := s.arisen.filter fun f => f != e } : State).Calm (s.takeEvent e) :=
      State.calm_perform _ e lca
    have left := State.calm_load calm
    by_cases mem : e ∈ s.arisen
    · have gone : (s.arisen.filter fun f => f != e).length < s.arisen.length :=
        List.length_filter_lt_length_iff_exists.2 ⟨_, mem, by simp⟩
      have same : ({ s with arisen := s.arisen.filter fun f => f != e } : State).expiries = s.expiries := rfl
      have kept : Event.leaseClockAdvance ∈ s.arisen.filter (fun f => f != e) ↔ Event.leaseClockAdvance ∈ s.arisen := by
        simp [Ne.symm lca]
      refine lt_of_le_of_lt left ?_
      unfold State.load
      simp only [same, kept]
      omega
    · have out : e ∈ s.expiries := (List.mem_append.1 h).resolve_left mem
      have fewer : (s.takeEvent e).expiries.length < s.expiries.length := by
        have sub : (s.takeEvent e).expiries.Sublist s.expiries := calm.expiries
        refine lt_of_le_of_ne sub.length_le fun eq => ?_
        refine State.not_mem_expiries_perform { s with arisen := s.arisen.filter fun f => f != e } e out ?_
        exact (sub.eq_of_length eq) ▸ out
      have arisen := (rest.trans calm).arisen
      have len := arisen.length_le
      unfold State.load
      split
      · next k =>
        rw [if_pos (arisen.subset k)]
        omega
      · omega

/-- The events that stand are all taken. -/
theorem State.takeAll_left (fuel : Nat) (s : State) (live : s.live = true) (enough : s.load ≤ fuel) :
    Relation.ReflTransGen State.TakesOne s (takeAll State.takeEvent State.untaken fuel s)
    ∧ (takeAll State.takeEvent State.untaken fuel s).untaken = []
    ∧ (takeAll State.takeEvent State.untaken fuel s).live = true := by
  induction fuel generalizing s with
  | zero =>
    refine ⟨.refl, ?_, live⟩
    unfold State.load at enough
    change s.untaken = []
    exact List.append_eq_nil_iff.2
      ⟨List.length_eq_zero_iff.1 (by omega), List.length_eq_zero_iff.1 (by omega)⟩
  | succ fuel ih =>
    have go : ∀ (e : Event) (n : Nat), e ∈ s.untaken →
        n = (if s.untaken.length = 1 then s.freeCount else s.freeCount + 1) →
        Relation.ReflTransGen State.TakesOne s
          (takeAll State.takeEvent State.untaken fuel (State.takeEvent e { s with freeCount := n }))
        ∧ (takeAll State.takeEvent State.untaken fuel (State.takeEvent e { s with freeCount := n })).untaken = []
        ∧ (takeAll State.takeEvent State.untaken fuel (State.takeEvent e { s with freeCount := n })).live = true := by
      intro e n mem eq
      have less := State.load_takeEvent { s with freeCount := n } e mem
      have same : ({ s with freeCount := n } : State).load = s.load := rfl
      have row : exec e.row { s with freeCount := n } = .next (State.takeEvent e { s with freeCount := n }) := by
        have l : ({ s with freeCount := n } : State).live = true := live
        cases e <;> simp only [exec, Event.row, execCountAdvance, execTriggerEdge, execGateChange, execCaptureEdge,
          execLeaseClockAdvance, execLeaseExpiry, execDeadlineExpiry, l, if_true]
      have l' : (State.takeEvent e { s with freeCount := n }).live = true := (State.live_takeEvent _ e).trans live
      have next := ih (State.takeEvent e { s with freeCount := n }) l' (by omega)
      exact ⟨.head ⟨e, mem, by rw [← eq]; exact row⟩ next.1, next.2⟩
    unfold takeAll
    split
    · next h => exact ⟨.refl, h, live⟩
    · next e h => exact go e s.freeCount (by simp [h]) (by simp [h])
    · next e f rest h =>
      refine go _ _ ?_ (by simp [h])
      rw [h]
      have lt : s.chosen (e :: f :: rest).length < (e :: f :: rest).length := Nat.mod_lt _ (by simp)
      rw [List.getD_eq_getElem _ _ lt]
      exact List.getElem_mem lt

/-- What stands at a REFCLK period is taken, event by event, until nothing stands. -/
theorem State.takeLeft_takes (live : s.live = true) :
    Relation.ReflTransGen State.TakesOne s s.takeLeft ∧ s.takeLeft.untaken = [] ∧ s.takeLeft.live = true := by
  refine State.takeAll_left _ s live ?_
  have := State.expiries_length s
  unfold State.load
  split <;> omega

/-- Where nothing stands, nothing is taken. -/
theorem State.takeLeft_nothing (h : s.untaken = []) : s.takeLeft = s := by
  simp [State.takeLeft, takeAll, h]

end Sys2Proof.Machine
end

