-- ==== Sys2Proof/Laws/Lines.lean ====
section
/-! SUPPORT. Pairs of drive lines, and what each operation of the drive engine does to one line. -/

namespace Sys2Proof.Machine

/-! ## Pairs (R51) -/

@[simp] theorem partner_partner (d : Drive) : partner (partner d) = d := by
  revert d
  decide

theorem partner_ne (d : Drive) : partner d ≠ d := by
  revert d
  decide

@[simp] theorem pairOf_partner (d : Drive) : pairOf (partner d) = pairOf d := by
  revert d
  decide

@[simp] theorem interlocked_partner (st : Settings) (d : Drive) : interlocked st (partner d) = interlocked st d := by
  simp [interlocked]

/-! ## One line -/

@[simp] theorem DriveLine.stop_idle : DriveLine.idle.stop = .idle := rfl

/-- A guarded deassert leaves the line DEASSERTED (R100). -/
@[simp] theorem DriveLine.guardedDeassert_asserted (st : Settings) (d : Drive) (l : DriveLine) :
    (l.guardedDeassert st d).asserted = false := by
  unfold DriveLine.guardedDeassert
  split
  · rfl
  · next h => simpa using h

/-- A due entry asserts a DEASSERTED line only if the line is not blocked (R99). -/
theorem DriveLine.serve_asserted {st : Settings} {d : Drive} {cycle : Cycle} {act : Action} {l : DriveLine}
    (low : l.asserted = false) : (l.serve st d true cycle act).asserted = false := by
  unfold DriveLine.serve
  split
  · cases act <;>
      simp [DriveLine.dueAssert, DriveLine.dueDeassert, DriveLine.dueToggle, DriveLine.duePulse, DriveLine.defer, low]
    split <;> simp
  · exact low

/-- A due entry on a forced line changes nothing (R101). -/
theorem DriveLine.serve_forced {st : Settings} {d : Drive} {b : Bool} {cycle : Cycle} {act : Action} {l : DriveLine}
    (h : l.forcing ≠ .free) : l.serve st d b cycle act = l := by
  simp [DriveLine.serve, h]

/-- Lowering a pulse end never asserts a line (R106). -/
theorem DriveLine.lowerPulse_asserted {st : Settings} {d : Drive} {l : DriveLine}
    (h : (l.lowerPulse st d).asserted = true) : l.asserted = true := by
  unfold DriveLine.lowerPulse at h
  split at h
  · exact h
  · split at h
    · simp [DriveLine.endPulse] at h
    · exact h

/-- Serving a due entry changes the drive record of its own line only (R59, R101). -/
theorem State.serveDrive_line (s : State) (d e : Drive) (act : Action) (h : e ≠ d) :
    (s.serveDrive d act).line e = s.line e := by
  simp [State.serveDrive, State.line, State.setLine, Bank.read_write_of_ne _ _ h]

end Sys2Proof.Machine
end

