-- ==== Sys2Proof/Laws/Queues.lean ====
section
/-! SUPPORT. The notice queue and the capture queue: what offering a notice or making a record can do. -/

namespace Sys2Proof.Machine

/-! ## Notices (R155) -/

/-- A notice joins a queue that has room (R155). -/
theorem Session.offer_room {q : Session} (x : Notice) (h : q.notices.length < 8) :
    q.offer x = { q with notices := q.notices ++ [x] } := by
  simp [Session.offer, Config.noticeCapacity, h]

/-- A notice offered to a full queue is counted, and the queue is not changed (R155). -/
theorem Session.offer_full {q : Session} (x : Notice) (h : 8 ≤ q.notices.length) :
    q.offer x =
      { q with
        lostNotices := min 255 (q.lostNotices + 1)
        firstLoss := if q.lostNotices = 0 then some x.cycle else q.firstLoss } := by
  simp [Session.offer, Config.noticeCapacity, Nat.not_lt.mpr h]

/-- No offer makes a notice queue longer than 8 (R155). -/
theorem Session.offer_length {q : Session} (x : Notice) (h : q.notices.length ≤ 8) :
    (q.offer x).notices.length ≤ 8 := by
  by_cases hq : q.notices.length < 8
  · rw [Session.offer_room x hq]
    simpa using hq
  · rw [Session.offer_full x (Nat.not_lt.mp hq)]
    exact h

/-- No offer makes the lost-notice count exceed 255 (R155). -/
theorem Session.offer_lost {q : Session} (x : Notice) (h : q.lostNotices ≤ 255) : (q.offer x).lostNotices ≤ 255 := by
  by_cases hq : q.notices.length < 8
  · rw [Session.offer_room x hq]
    exact h
  · rw [Session.offer_full x (Nat.not_lt.mp hq)]
    exact Nat.min_le_left _ _

section Fields

variable (q : Session) (x : Notice)

@[simp] theorem Session.offer_state : (q.offer x).state = q.state := by unfold Session.offer; split <;> rfl

@[simp] theorem Session.offer_epoch : (q.offer x).epoch = q.epoch := by unfold Session.offer; split <;> rfl

@[simp] theorem Session.offer_lease : (q.offer x).lease = q.lease := by unfold Session.offer; split <;> rfl

@[simp] theorem Session.offer_commit : (q.offer x).commit = q.commit := by unfold Session.offer; split <;> rfl

@[simp] theorem Session.offer_staging : (q.offer x).staging = q.staging := by unfold Session.offer; split <;> rfl

@[simp] theorem Session.offer_active : (q.offer x).active = q.active := by unfold Session.offer; split <;> rfl

@[simp] theorem Session.offer_applied : (q.offer x).applied = q.applied := by unfold Session.offer; split <;> rfl

@[simp] theorem Session.offer_captures : (q.offer x).captures = q.captures := by unfold Session.offer; split <;> rfl

@[simp] theorem Session.offer_sequence : (q.offer x).sequence = q.sequence := by unfold Session.offer; split <;> rfl

@[simp] theorem Session.offer_lostSense : (q.offer x).lostSense = q.lostSense := by unfold Session.offer; split <;> rfl

@[simp] theorem Session.offer_lostMarker : (q.offer x).lostMarker = q.lostMarker := by
  unfold Session.offer; split <;> rfl

@[simp] theorem Session.offer_overrun : (q.offer x).overrun = q.overrun := by unfold Session.offer; split <;> rfl

end Fields

/-! ## Records (R127 to R129) -/

/-- Making a record changes no session's list of entries, state, lease or commit, and no queue but the one of the session
it is made for. -/
theorem State.makeRecord_session_of_ne (s : State) {a b : Agent} (k : RecordKind) (c : Nat) (h : b ≠ a) :
    (s.makeRecord a k c).session b = s.session b := by
  unfold State.makeRecord State.notify
  dsimp only
  split <;> split <;> simp [h]

/-- A capture queue never grows beyond 32 (R128, R129). -/
theorem State.makeRecord_captures (s : State) (a : Agent) (k : RecordKind) (c : Nat)
    (h : (s.session a).captures.length ≤ 32) : ((s.makeRecord a k c).session a).captures.length ≤ 32 := by
  have loss : ∀ (q : Session) (x : LossSource), (q.countLoss x).captures = q.captures := by
    intro q x
    cases x <;> rfl
  unfold State.makeRecord State.notify
  dsimp only
  split
  · next hq =>
    have hq' : (s.session a).captures.length + 1 ≤ 32 := hq
    split
    · simp
      split <;> simpa using hq'
    · simpa using hq'
  · split <;> simp [loss] <;> (try split) <;> simpa [loss] using h

end Sys2Proof.Machine
end

