-- ==== Sys2Proof/Tests/Slice0.lean ====
section
/-! SUPPORT. Small tests: ill-formed commands are refused, some commands do what their rules say on small states, and for
each statement a concrete state and operands meet its hypotheses, clause by clause. -/

open Sys2Proof Sys2Proof.Machine

namespace Tests

/-! ## States -/

/-- The state a command leads to; the state after reset stands for the absent ones. -/
def after (c : Instr) (s : State) : State :=
  match exec c s with
  | .next t => t
  | .fault _ => State.reset
  | .refused _ => State.reset

/-- The status of the newest response on port 0. -/
def answer (c : Instr) (s : State) : Option Status := ((after c s).port 0).responses.getLast?.map fun r => r.status

/-- An OPEN session with epoch 1 and a lease of 100 ms. -/
def member : Session := { Session.vacant .openState 1 with lease := some ⟨100, 100⟩ }

/-- Agents 0 and 1 have sessions; agent 0 owns D0, D1 and S0, agent 1 owns D4. Pair 0 is interlocked, with guard 3. -/
def ready : State :=
  { State.reset with
    sessions := (State.reset.sessions.write 0 member).write 1 member
    driveOwner := ((State.reset.driveOwner.write 0 (some 0)).write 1 (some 0)).write 4 (some 1)
    senseOwner := State.reset.senseOwner.write 0 (some 0)
    settings := { Settings.reset with period := 10, pairSetup := Settings.reset.pairSetup.write 0 ⟨true, 3⟩ } }

/-- The same, with the time base in a run state. -/
def inRun (r : RunState) : State := { ready with time := { ready.time with run := r } }

/-- The same, in a mode, with S0 as both sources. -/
def inMode (m : Mode) (r : RunState) : State :=
  { inRun r with settings := { ready.settings with mode := m, triggerSource := some 0, gateSource := some 0 } }

/-- Session 0 replaced. -/
def withSession (q : Session) : State := ready.setSession 0 q

/-- Port 0 in a stage of its transaction. -/
def inStage (x : Transaction) : State := ready.setPort 0 { ready.port 0 with selected := true, transaction := x }

/-- A proposal of period 20 alone. -/
def period20 : Proposal := proposalOf [0x80, 0, 0, 0, 0, 0, 20]

/-- The settings record that carries it. -/
def record20 : List Byte := [0x80, 0, 0, 0, 0, 0, 20] ++ List.replicate 31 0

/-- A ballot of agent 1 with agent 0 as the only elector. -/
def open1 : OpenBallot := ⟨1, period20, (emptySet 4).write 0 true, emptySet 4, 100⟩

/-- A ballot of agent 1 that agent 0 has accepted and agent 2 has not. -/
def fading : OpenBallot := ⟨1, period20, ((emptySet 4).write 0 true).write 2 true, (emptySet 4).write 0 true, 100⟩

def withSlot (x : Slot) : State := { ready with ballot := ⟨5, x, none⟩ }

def entry (handle offset : Nat) (t : Target) (act : Action) : Entry := ⟨handle, t, act, offset, none⟩

/-- Agent 0 with one staged ASSERT on D0 at offset 3. -/
def staged : State := withSession { member with staging := [entry 0 3 (.drive 0) .assert] }

/-- A response without data. -/
def reply : Response := ⟨1, 2, .ok, .none⟩

/-- Port 0 with some responses waiting. -/
def waiting (k : Nat) : State := ready.setPort 0 { ready.port 0 with responses := List.replicate k reply }

/-! ## Ill-formed commands -/

theorem test_refuses_long_payload : (Instr.renew 0 1 (List.replicate 61 0)).wellFormed = false := by decide
theorem test_accepts_full_payload : (Instr.renew 0 1 (List.replicate 60 0)).wellFormed = true := by decide
theorem test_refuses_closeNow_at_boundary : (Instr.closeNow 0 1 [1]).wellFormed = false := by decide
theorem test_refuses_closeAtBoundary_now : (Instr.closeAtBoundary 0 1 [0]).wellFormed = false := by decide
theorem test_refuses_known_code : (Instr.unknownCommand 0 0x1A 1 []).wellFormed = false := by decide
theorem test_refuses_unknown_long : (Instr.unknownCommand 0 0x1B 1 (List.replicate 61 0)).wellFormed = false := by decide
theorem test_refuses_peek_send : (Instr.peek 0 0xA5).wellFormed = false := by decide
theorem test_refuses_peek_fetch : (Instr.peek 0 0x5A).wellFormed = false := by decide
theorem test_refuses_peek_reset : (Instr.peek 0 0xC3).wellFormed = false := by decide

/-! ## Commands on small states -/

theorem test_open : answer (.openSession 0 9 [20]) State.reset = some .ok
    ∧ ((after (.openSession 0 9 [20]) State.reset).session 0).lease = some ⟨200, 200⟩ := by decide
theorem test_open_again : answer (.openSession 0 9 [20]) ready = some .alreadyOpen := by decide
theorem test_closed_port : answer (.reserve 0 9 [0, 1, 0]) State.reset = some .noSession := by decide
theorem test_close_now : ((after (.closeNow 0 9 [0]) ready).session 0).state = .closed
    ∧ (after (.closeNow 0 9 [0]) ready).driveOwner.read 0 = none := by decide
theorem test_close_at_boundary : ((after (.closeAtBoundary 0 9 [1]) (inRun .running)).session 0).state = .closing := by
  decide
theorem test_renew : ((after (.renew 0 9 [3]) ready).session 0).lease = some ⟨30, 30⟩ := by decide
theorem test_status : answer (.status 0 9 []) State.reset = some .ok := by decide
theorem test_reserve_pair :
    (after (.reserve 0 9 [0, 4, 2]) ready).driveOwner.read 2 = some 0
    ∧ (after (.reserve 0 9 [0, 4, 2]) ready).senseOwner.read 1 = some 0 := by decide
theorem test_reserve_taken : answer (.reserve 0 9 [0, 0x10, 0]) ready = some .lineTaken := by decide
theorem test_release_expands : (after (.release 0 9 [0, 1, 0]) ready).driveOwner.read 1 = none := by decide
theorem test_release_in_use : answer (.release 0 9 [0, 1, 0]) staged = some .lineInUse := by decide
theorem test_stage :
    ((after (.stageEntry 0 9 [0, 4, 0, 5, 0, 2, 0, 0, 0]) staged).session 0).staging =
      [entry 0 3 (.drive 0) .assert, entry 1 5 (.drive 0) (.pulse 2)] := by decide
theorem test_stage_offset : answer (.stageEntry 0 9 [0, 1, 0, 10, 0, 0, 0, 0, 0]) ready = some .offsetRange := by decide
theorem test_amend :
    ((after (.amendEntry 0 9 [0, 2, 0, 4, 0, 0, 0, 0, 0]) staged).session 0).staging =
      [entry 0 4 (.drive 0) .deassert] := by decide
theorem test_withdraw : ((after (.withdrawEntry 0 9 [0]) staged).session 0).staging = [] := by decide
theorem test_clear : ((after (.clearStaging 0 9 []) staged).session 0).staging = [] := by decide
theorem test_commit_stopped : ((after (.commit 0 9 []) staged).session 0).active = [entry 0 3 (.drive 0) .assert]
    ∧ answer (.commit 0 9 []) staged = some .applied := by decide
theorem test_commit_running : answer (.commit 0 9 []) (inRun .running) = some .pending := by decide
theorem test_abandon : answer (.abandon 0 9 []) ready = some .nothingPending := by decide
theorem test_force : (after (.forceLine 0 9 [0, 1]) ready).line 0 = ⟨true, .forcedAsserted, none, none, 0⟩ := by decide
theorem test_force_interlock : answer (.forceLine 0 9 [1, 1]) (after (.forceLine 0 9 [0, 1]) ready) = some .interlock := by
  decide
theorem test_unforce : (after (.unforceLine 0 9 [0]) (after (.forceLine 0 9 [0, 1]) ready)).line 0 =
    ⟨false, .free, none, none, 3⟩ := by decide
theorem test_set_sense : ((after (.setSense 0 9 [0, 3, 8, 15]) ready).senseLine 0).prescale = 8 := by decide
theorem test_arm : ((after (.armSense 0 9 [0]) ready).senseLine 0).armed = true := by decide
theorem test_disarm : answer (.disarmSense 0 9 [1]) ready = some .lineNotOwned := by decide
theorem test_capture : ((after (.captureEdge 0 .rising) (after (.armSense 0 9 [0]) ready)).session 0).captures =
    [⟨.edge 0 .rising true, 0, 0, 0⟩] := by decide
theorem test_propose : (after (.propose 0 9 (10 :: record20)) ready).ballot.slot =
    .openSlot ⟨0, period20, (emptySet 4).write 1 true, emptySet 4, 100⟩ := by decide
theorem test_vote : (after (.vote 0 9 [0, 5, 1]) (withSlot (.openSlot open1))).settings.period = 20 := by decide
theorem test_retract : answer (.retract 0 9 [0, 5]) (withSlot (.openSlot open1)) = some .notProposer := by decide
theorem test_read_notices : answer (.readNotices 0 9 [6]) ready = some .badArgument := by decide
theorem test_unknown : answer (.unknownCommand 0 0x1B 9 []) ready = some .unknownCommand := by decide

/-- A RENEW sent byte by byte, then its response fetched: the tag, the code, OK, the length, and 200 ms. -/
theorem test_frame_by_bytes :
    (((after (.byteShifted 0 20) (inStage (.receiving [0x03, 7, 1]))).port 0).responses.map fun r => r.bytes) =
      [[7, 0x03, 0x00, 2, 0, 200]] := by decide

/-- The interlock holds D1 back while D0 is ASSERTED; the deferral is taken when D0's guard has run out (R107). -/
theorem test_deferral_taken :
    (after .countAdvance { (inRun .running).setLine 1 ⟨false, .free, none, some ⟨.assert, 0⟩, 0⟩ with
      drive := (((inRun .running).setLine 1 ⟨false, .free, none, some ⟨.assert, 0⟩, 0⟩).setLine 0
        ⟨false, .free, none, none, 1⟩).drive }).line 1 = ⟨true, .free, none, none, 0⟩ := by decide

/-- An entry at offset 0 is due when the trigger starts the cycle (R3, R7). -/
theorem test_trigger_serves_origin :
    (after .triggerEdge ((inMode .triggered .armed).setSession 0
      { member with active := [entry 0 0 (.drive 0) .toggle] })).line 0 = ⟨true, .free, none, none, 0⟩ := by decide

/-- A transaction carries at most one frame: what comes after its frame is ignored (R163). -/
theorem test_second_frame_is_ignored :
    after (.status 0 9 []) (after (.status 0 8 []) (inStage .command)) = after (.status 0 8 []) (inStage .command) := by
  decide

/-- SELn_N rose unseen in a frame and is low again when REFCLK resumes: the transaction goes on (R19). -/
theorem test_unseen_rise_leaves_the_frame :
    let s := after (.transactionEnd 0) (after .refclkStop (inStage (.receiving [0x04])))
    let t := after (.refclkPeriod (Bank.fill 8 .low)) (after (.transactionStart 0) (after .refclkResume s))
    (t.port 0).transaction = .receiving [0x04] ∧ (t.port 0).error = .none := by decide

/-- It is still high when a byte comes: the frame has been cut short (R19, R164). -/
theorem test_unseen_rise_cuts_the_frame :
    let s := after (.transactionEnd 0) (after .refclkStop (inStage (.receiving [0x04])))
    let t := after (.byteShifted 0 9) (after .refclkResume s)
    (t.port 0).transaction = .idle ∧ (t.port 0).error = .truncated := by decide

/-- It is still high when a frame's row comes: the transaction has ended, a frame begun in it is cut short, and the row's
frame is taken (R19, R163, R164). -/
theorem test_unseen_rise_before_a_frame :
    let ended := fun x : Transaction => after .refclkResume (after (.transactionEnd 0) (after .refclkStop (inStage x)))
    answer (.status 0 9 []) (ended .done) = some .ok
    ∧ ((after (.status 0 9 []) (ended .done)).port 0).transaction = .idle
    ∧ ((after (.status 0 9 []) (ended (.receiving [4]))).port 0).error = .truncated
    ∧ answer (.status 0 9 []) (ended (.receiving [4])) = some .ok := by decide

/-- A count is 2 bytes wherever it stands: the entry count of COMMIT_APPLIED and the count of NOTICES_LOST (section
11.2). -/
theorem test_counts_are_two_bytes :
    Notice.bytes ⟨.commitApplied 128 .immediate, 7⟩ = [0, 0, 0, 0, 7, 0, 128, 1, 0, 0, 0]
    ∧ Notice.bytes ⟨.noticesLost 255 6, 7⟩ = [10, 0, 0, 0, 7, 0, 255, 0, 0, 0, 6] := by decide

/-- CAPTURE_READY carries the record's kind by section 11.2, 00H EDGE and 01H MARK; a capture record by section 11.4. -/
theorem test_record_kinds :
    Notice.bytes ⟨.captureReady 5 (.mark 9), 7⟩ = [5, 0, 0, 0, 7, 0, 5, 1, 0, 0, 0]
    ∧ Notice.bytes ⟨.captureReady 5 (.edge 2 .rising false), 7⟩ = [5, 0, 0, 0, 7, 0, 5, 0, 0, 0, 0]
    ∧ (CaptureRecord.bytes ⟨.mark 9, 5, 7, 0⟩).head? = some 2 := by decide

/-! ## Witnesses: the step, reset and the invariants -/

theorem witness_StepRunsFrontCommand : State.reset.pending = [] := by decide

theorem witness_DeviceResetGivesResetValues : (after .deviceReset ready).resetLow = true ∧ ready.resetLow = false := by
  decide

/-- A state that a command waits in, for the invariants. -/
def queued : State := { ready with pending := [.countAdvance] }

theorem witness_StepKeepsQueueCapacities : QueuesFit queued ∧ step queued = .next ready := by
  refine ⟨⟨?_, ?_, ?_, ?_, ?_, ?_⟩, rfl⟩ <;> decide

theorem witness_StepKeepsCoherence : Coherent queued ∧ step queued = .next ready := by
  refine ⟨⟨by decide, by decide, ?_, ?_, ?_, by decide, by decide, by decide, by decide⟩, rfl⟩
  · unfold Session.holdsNothing
    decide
  · intro a e h
    have none : (queued.session a).staging = [] := by
      clear h
      revert a
      decide
    simp [none] at h
  · intro a e h
    have none : (queued.session a).active = [] := by
      clear h
      revert a
      decide
    simp [none] at h

theorem witness_StepKeepsLegalTime : LegalTime queued ∧ step queued = .next ready := by
  have legal : queued.settings.Legal := by constructor <;> decide
  refine ⟨⟨legal, ?_, by decide, by decide, by decide, by decide, by decide⟩, rfl⟩
  intro p h
  simp [queued, ready, State.reset, Ballot.reset, Slot.proposal?] at h

theorem fits_nil : EntriesFit [] := by constructor <;> simp

theorem timetableFits_queued : TimetableFits queued := by
  have staging : ∀ a, (queued.session a).staging = [] := by decide
  have active : ∀ a, (queued.session a).active = [] := by decide
  constructor
  · intro a
    rw [staging]
    exact fits_nil
  · intro a
    rw [active]
    exact fits_nil
  · intro a e h
    simp [staging, active] at h
  · intro p k h
    simp [queued, ready, State.reset, Ballot.reset, Slot.proposal?] at h
  · decide
  · intro p a k h
    simp [queued, ready, State.reset, Ballot.reset, Slot.proposal?] at h
  · decide
  · intro p a k h
    simp [queued, ready, State.reset, Ballot.reset, Slot.proposal?] at h

theorem witness_StepKeepsTheTimetableFitting : TimetableFits queued ∧ step queued = .next ready :=
  ⟨timetableFits_queued, rfl⟩

theorem witness_StepKeepsDriveLinesFitting :
    Coherent queued ∧ LegalTime queued ∧ TimetableFits queued ∧ LinesFit queued ∧ step queued = .next ready := by
  have idle : ∀ d, queued.line d = ⟨false, .free, none, none, 0⟩ := by decide
  refine ⟨witness_StepKeepsCoherence.1, witness_StepKeepsLegalTime.1, timetableFits_queued, ?_, rfl⟩
  constructor <;> simp [idle]

/-! ## Witnesses: encodings and frames -/

/-- The largest fields an entry can have. -/
def largest : Entry := ⟨127, .drive 15, .pulse 65535, 65535, some ⟨16, 15⟩⟩

theorem witness_EntryRecordsAreReadOrRefused :
    (largest.handle < 128 ∧ largest.action.suits largest.target = true ∧ largest.offset < 65536
    ∧ (∀ w, largest.action = .pulse w → 1 ≤ w ∧ w < 65536)
    ∧ ∀ c, largest.cadence = some c → 1 ≤ c.interval ∧ c.interval ≤ 16 ∧ c.phase < c.interval)
    ∧ stageOf [15, 4, 0xFF, 0xFF, 0, 1, 16, 15, 0] ≠ none ∧ stageOf [71, 6, 0, 0, 0, 0, 0, 0, 0] ≠ none
    ∧ stageOf [0x80, 7, 0, 0, 0, 0, 1, 0, 0xFF] ≠ none ∧ handleOf 127 ≠ none ∧ handleOf 128 = none
    ∧ ∀ x ∈ ([[16, 1, 0, 0, 0, 0, 0, 0, 0], [72, 5, 0, 0, 0, 0, 0, 0, 0], [0x81, 7, 0, 0, 0, 0, 0, 0, 0],
        [0xC0, 7, 0, 0, 0, 0, 0, 0, 0], [0, 0, 0, 0, 0, 0, 0, 0, 0], [0, 8, 0, 0, 0, 0, 0, 0, 0],
        [0, 4, 0, 0, 0, 0, 0, 0, 0], [0, 1, 0, 0, 1, 0, 0, 0, 0], [0, 1, 0, 0, 0, 0, 0, 0, 1],
        [0, 1, 0, 0, 0, 0, 0, 1, 0], [0, 1, 0, 0, 0, 0, 17, 0, 0], [0, 1, 0, 0, 0, 0, 16, 16, 0],
        [0, 5, 0, 0, 0, 0, 0, 0, 0], [64, 4, 0, 0, 0, 1, 0, 0, 0], [0x80, 6, 0, 0, 0, 0, 0, 0, 0]] : List (List Byte)),
      stageOf x = none := by
  refine ⟨⟨by decide, by decide, by decide, ?_, ?_⟩, by decide, by decide, by decide, by decide, by decide, by decide⟩
  · intro w h
    cases h
    decide
  · intro c h
    cases h
    decide

/-- Every field at the top of its range. -/
def fullest : Proposal where
  period := some 65536
  divider := some 4096
  mode := some .gated
  run := some .stop
  budget := some 65535
  triggerSource := some (some 7)
  gateSource := some none
  timingFilter := some 15
  quota := Bank.fill 4 (some 128)
  pairSetup := Bank.fill 8 (some ⟨true, 1023⟩)
  idleLevel := Bank.fill 16 (some .high)

theorem witness_SettingsRecordsRoundTrip :
    (∀ k, fullest.period = some k → 2 ≤ k ∧ k ≤ 65536) ∧ (∀ k, fullest.divider = some k → 1 ≤ k ∧ k ≤ 4096)
    ∧ (∀ k, fullest.budget = some k → k ≤ 65535) ∧ (∀ k, fullest.timingFilter = some k → k ≤ 15)
    ∧ (∀ a k, fullest.quota.read a = some k → k ≤ 128)
    ∧ ∀ i x, fullest.pairSetup.read i = some x → x.guard ≤ 1023 := by
  refine ⟨?_, ?_, ?_, ?_, ?_, ?_⟩
  · intro k h
    cases h
    decide
  · intro k h
    cases h
    decide
  · intro k h
    cases h
    decide
  · intro k h
    cases h
    decide
  · intro a k h
    simp [fullest] at h
    omega
  · intro i x h
    simp [fullest] at h
    subst h
    decide

theorem accepts_ready (p : Agent) : ready.Accepts p := ⟨by decide, by revert p; decide, by revert p; decide, by revert p; decide⟩

theorem accepts_reset (p : Agent) : State.reset.Accepts p := ⟨by decide, by revert p; decide, by revert p; decide, by revert p; decide⟩

theorem witness_FrameChecksFollowTheTables : Command.ofCode 0x1A = some .readNotices
    ∧ codeIsCommand 0x1B = false ∧ Command.commit.code = 0x0D ∧ [(0 : Byte)].length ∉ Command.commit.lengths
    ∧ ([] : List Byte).length ∈ Command.commit.lengths ∧ byteAt [(0 : Byte)] 0 ≠ 1 ∧ byteAt [(1 : Byte)] 0 = 1 := by
  decide

/-- SELn_N rose while REFCLK was stopped, and fell while it was stopped; REFCLK has resumed. -/
def unseenRise : State := after .refclkResume (after (.transactionEnd 0) (after .refclkStop (inStage .command)))

def unseenFall : State := after .refclkResume (after (.transactionStart 0) (after .refclkStop ready))

theorem witness_FramesAreRefusedDiscardedOrIgnored :
    ((Instr.reserve 3 0 []).frame? = some ⟨3, 0x05, 0, []⟩ ∧ ready.Accepts 3
      ∧ frameRefusal 0x05 [] (ready.session 3).state = some .badFrame
      ∧ frameRefusal 0x0D [] (ready.session 3).state = some .noSession
      ∧ (List.replicate 60 (0 : Byte)).length ≤ 60 ∧ codeIsCommand 0x1B = false ∧ codeIsCommand 0x00 = false)
    ∧ ((waiting 4).Full 0 ∧ (waiting 3).Accepts 0)
    ∧ (Instr.commit 0 1 []).frame? = some ⟨0, 0x0D, 1, []⟩ ∧ ((inStage .done).port 0).transaction = .done
    ∧ ((inStage .ignored).port 0).transaction = .ignored ∧ ((inStage (.sending 4)).port 0).transaction = .sending 4
    ∧ ((inStage (.marker 3)).port 0).transaction = .marker 3 ∧ ((inStage .done).port 0).selected = true
    ∧ (unseenRise.live = true ∧ (unseenRise.port 0).selected = false ∧ (unseenRise.port 0).transaction ≠ .idle)
    ∧ (unseenFall.live = true ∧ (unseenFall.port 0).selected = true ∧ (unseenFall.port 0).transaction = .idle) :=
  ⟨⟨by decide, accepts_ready 3, by decide, by decide, by decide, by decide, by decide⟩,
    ⟨⟨by decide, by decide, by decide, by decide⟩, ⟨by decide, by decide, by decide, by decide⟩⟩, by decide, by decide, by decide, by decide,
    by decide, by decide, by decide, by decide⟩

theorem witness_SleepingPartTakesNothing :
    (after .refclkStop ready).live = false ∧ (after .deviceReset ready).live = false
    ∧ Instr.countAdvance.outside = false := by decide

/-! ## Witnesses: sessions -/

theorem witness_OpenStartsASession :
    (State.reset.Accepts 0 ∧ (State.reset.session 0).state.present = false)
    ∧ ((withSession (Session.vacant .expired 255)).Accepts 0
      ∧ ((withSession (Session.vacant .expired 255)).session 0).state.present = false) :=
  ⟨⟨accepts_reset 0, by decide⟩, ⟨by decide, by decide, by decide, by decide⟩, by decide⟩

theorem witness_RenewKeepsOrSetsTheInterval :
    ready.Accepts 0 ∧ (ready.session 0).state.present = true ∧ (ready.session 0).lease = some ⟨100, 100⟩ :=
  ⟨accepts_ready 0, by decide, by decide⟩

theorem witness_StatusReportsInEverySessionState :
    State.reset.Accepts 0 ∧ (List.replicate 60 (0 : Byte)) ≠ [] ∧ (State.reset.session 0).state.present = false
    ∧ (ready.session 0).state.present = true ∧ (ready.session 0).lease = some ⟨100, 100⟩ :=
  ⟨accepts_reset 0, by decide, by decide, by decide, by decide⟩

theorem witness_CloseNowTearsDown :
    (withSession { member with state := .closing }).Accepts 0
    ∧ ((withSession { member with state := .closing }).session 0).state.present = true ∧ 2 ≤ (2 : Byte).toNat :=
  ⟨⟨by decide, by decide, by decide, by decide⟩, by decide, by decide⟩

theorem witness_CloseAtBoundaryWaitsForTheBoundary :
    (inRun .held).Accepts 0 ∧ ((inRun .held).session 0).state = .openState ∧ (inRun .held).time.run.isRunning = true
    ∧ ready.time.run.isRunning = false := ⟨⟨by decide, by decide, by decide, by decide⟩, by decide, by decide, by decide⟩

theorem witness_TeardownTakesBackEverything : SessionState.expired.present = false
    ∧ (∀ b, ready.ballot.slot ≠ .openSlot b) ∧ (inRun .held).time.run.isRunning = true
    ∧ ((withSlot (.openSlot fading)).time.run.isRunning = false
      ∧ (withSlot (.openSlot fading)).ballot.slot = .openSlot fading ∧ fading.proposer ≠ 2
      ∧ fading.electorate.read 2 = true ∧ fading.accepted.write 2 false = fading.electorate.write 2 false)
    ∧ ∀ b q, ((ready.tearDown 0 0 .expired .expired).ballot.slot) ≠ .passed b q := by
  refine ⟨by decide, ?_, by decide, ⟨by decide, by decide, by decide, by decide, by decide⟩, ?_⟩
  · intro b h
    cases h
  · intro b q h
    have empty : (ready.tearDown 0 0 .expired .expired).ballot.slot = .empty := by decide
    rw [empty] at h
    cases h

theorem witness_LeavingEndsOrNarrowsTheBallot :
    (withSlot (.openSlot fading)).ballot.slot = .openSlot fading ∧ fading.proposer = 1 ∧ fading.proposer ≠ 2
    ∧ fading.electorate.read 2 = true ∧ fading.accepted.write 2 false = fading.electorate.write 2 false
    ∧ fading.electorate.read 0 = true ∧ fading.accepted.write 0 false ≠ fading.electorate.write 0 false
    ∧ fading.proposer ≠ 3 ∧ fading.electorate.read 3 = false ∧ ∀ b, ready.ballot.slot ≠ .openSlot b := by
  refine ⟨rfl, by decide, by decide, by decide, by decide, by decide, by decide, by decide, by decide, ?_⟩
  intro b h
  cases h

theorem witness_PortResetClearsPortAndSession :
    (inStage .command).live = true ∧ ((inStage .command).port 0).transaction = .command
    ∧ ((inStage .command).port 0).selected = true ∧ ((inStage .command).session 0).state.present = true
    ∧ (((inStage .command).setSession 0 (Session.vacant .expired 1)).session 0).state.present = false := by decide

theorem witness_ExpiriesEndSessionsAndBallots :
    ready.live = true ∧ (ready.session 0).leaseOut = false
    ∧ ((withSession { member with lease := some ⟨100, 0⟩ }).session 0).leaseOut = true
    ∧ (withSlot (.openSlot { open1 with deadline := 0 })).ballot.slot = .openSlot { open1 with deadline := 0 }
    ∧ (withSlot (.openSlot { open1 with deadline := 1 })).deadlineOut = false := by decide

theorem witness_LeaseClockAdvanceLowersLeases : ready.live = true ∧ ready.expiries = [] := by decide

/-! ## Witnesses: lines -/

/-- A standing ballot that proposes an idle level for D15. -/
def locking : State := withSlot (.passed 1 { period20 with idleLevel := period20.idleLevel.write 15 (some .high) })

/-- What a payload of RESERVE or RELEASE acts on in `ready`: D0 draws D1 in, of the interlocked pair 0. -/
def drawn (b0 b1 b2 : Byte) : LineSets :=
  ⟨Bank.build fun d => (b0 ++ b1 : Half).getLsbD d.val
      || (interlocked ready.settings d && (b0 ++ b1 : Half).getLsbD (partner d).val),
    Bank.build fun i => b2.getLsbD i.val⟩

theorem witness_ReserveTakesAllOrNothing :
    ready.Accepts 0 ∧ (ready.session 0).state = .openState
    ∧ ((drawn 0 0x10 0).drives.read 4 = true ∧ ready.driveOwner.read 4 = some 1)
    ∧ (locking.Accepts 0 ∧ (drawn 0x80 0 0).drives.read 15 = true ∧ locking.lockSet.read 15 = true
      ∧ (∀ d, (drawn 0x80 0 0).drives.read d = true → locking.driveOwner.read d = none)
      ∧ ∀ i, (drawn 0x80 0 0).senses.read i = false)
    ∧ (∀ d, (drawn 0x80 1 0x80).drives.read d = true → ready.driveOwner.read d = none ∨ ready.driveOwner.read d = some 0)
    ∧ (∀ i, (drawn 0x80 1 0x80).senses.read i = true → ready.senseOwner.read i = none ∨ ready.senseOwner.read i = some 0)
    ∧ (∀ d, (drawn 0x80 1 0x80).drives.read d = true → ready.lockSet.read d = false)
    ∧ ∀ d, (drawn 0x80 1 0x80).drives.read d = (((0x80 : Byte) ++ (1 : Byte) : Half).getLsbD d.val
      || (interlocked ready.settings d && ((0x80 : Byte) ++ (1 : Byte) : Half).getLsbD (partner d).val)) :=
  ⟨accepts_ready 0, by decide, by decide,
    ⟨⟨by decide, by decide, by decide, by decide⟩, by decide, by decide, by decide, by decide⟩, by decide, by decide, by decide,
    by decide⟩

theorem witness_ReleaseGivesLinesBack :
    ready.Accepts 0 ∧ (ready.session 0).state = .openState
    ∧ ((drawn 0x80 0 0).filter (fun d => !(ready.driveOwner.read d == some 0))
      fun i => !(ready.senseOwner.read i == some 0)).isEmpty = false
    ∧ ((drawn 0 1 1).filter (fun d => !(ready.driveOwner.read d == some 0))
      fun i => !(ready.senseOwner.read i == some 0)).isEmpty = true
    ∧ ((drawn 0 1 1).filter (fun d => (ready.session 0).names (.drive d))
      fun i => (ready.session 0).names (.sense i)).isEmpty = true
    ∧ ((drawn 0 1 1).filter (fun d => (staged.session 0).names (.drive d))
      fun i => (staged.session 0).names (.sense i)).isEmpty = false :=
  ⟨accepts_ready 0, by decide, by decide, by decide, by decide, by decide⟩

/-! ## Witnesses: staging and commit -/

theorem accepts_staged : staged.Accepts 0 := ⟨by decide, by decide, by decide, by decide⟩

/-- Agent 0 with a quota of 1, which its one entry fills. -/
def filled : State := { staged with settings := { staged.settings with quota := staged.settings.quota.write 0 1 } }

theorem witness_StageEntryAddsOrIsRefused :
    staged.Accepts 0 ∧ (staged.session 0).state = .openState ∧ (staged.session 0).commit = .none
    ∧ (stageOf [0, 0, 0, 0, 0, 0, 0, 0, 0] = none ∧ staged.ownsTarget 0 (.drive 4) = false
      ∧ staged.refusingPeriod 10 = some ⟨10, none⟩
      ∧ entryAt (staged.session 0).staging (.drive 0) 3 none = some (entry 0 3 (.drive 0) .assert)
      ∧ entryAt (filled.session 0).staging (.drive 0) 9 none = none
      ∧ (filled.bound 0).limit ≤ (filled.session 0).staging.length)
    ∧ (stageOf [0, 1, 0, 9, 0, 0, 0, 0, 0] = some (.drive 0, ⟨.assert, 9, none⟩)
      ∧ staged.ownsTarget 0 (.drive 0) = true ∧ staged.refusingPeriod 9 = none
      ∧ (∀ e ∈ (staged.session 0).staging, ¬ (e.target = .drive 0 ∧ e.offset = 9))
      ∧ (staged.session 0).staging.length < (staged.bound 0).limit ∧ (staged.session 0).staging.length < 128) :=
  ⟨accepts_staged, by decide, by decide, by decide, by decide⟩

theorem witness_StandingBallotNarrowsOffsetsAndBounds :
    ready.settings.period ≤ 10 ∧ 9 < ready.settings.period ∧ ready.ballot.slot.proposal? = none
    ∧ (withSlot (.openSlot open1)).ballot.slot.proposal? = some period20 := by decide

theorem witness_AmendEntryReplacesFields :
    handleOf (byteAt [128, 1, 0, 9, 0, 0, 0, 0, 0] 0) = none
    ∧ handleOf (byteAt [0, 1, 0, 9, 0, 0, 0, 0, 0] 0) = some 0
    ∧ entryFieldsOf [0, 1, 0, 9, 0, 0, 0, 0, 0] = some ⟨.assert, 9, none⟩
    ∧ entryUnder (ready.session 0).staging 0 = none
    ∧ entryUnder (staged.session 0).staging 0 = some (entry 0 3 (.drive 0) .assert)
    ∧ Action.arm.suits (.drive 0) = false ∧ Action.assert.suits (.drive 0) = true
    ∧ staged.refusingPeriod 10 = some ⟨10, none⟩ ∧ staged.refusingPeriod 9 = none
    ∧ entryAt (staged.session 0).staging (.drive 0) 9 (some 0) = none
    ∧ entryAt [entry 0 3 (.drive 0) .assert, entry 1 9 (.drive 0) .toggle] (.drive 0) 9 (some 0) =
      some (entry 1 9 (.drive 0) .toggle) := by decide

/-- Agent 0 with a commit PENDING. -/
def pending0 : State := withSession { member with commit := .pending 7 }

theorem accepts_pending0 : pending0.Accepts 0 := ⟨by decide, by decide, by decide, by decide⟩

theorem witness_WithdrawAndClearRemoveEntries :
    staged.Accepts 0 ∧ (staged.session 0).state = .openState ∧ (staged.session 0).commit = .none
    ∧ 128 ≤ (128 : Byte).toNat ∧ (127 : Byte).toNat < 128
    ∧ entryUnder (staged.session 0).staging (127 : Byte).toNat = none
    ∧ entryUnder (staged.session 0).staging (0 : Byte).toNat = some (entry 0 3 (.drive 0) .assert)
    ∧ pending0.Accepts 0 ∧ (pending0.session 0).commit = .pending 7 :=
  ⟨accepts_staged, by decide, by decide, by decide, by decide, by decide, by decide, accepts_pending0, by decide⟩

theorem witness_PendingCommitFreezesStaging :
    pending0.Accepts 0 ∧ (pending0.session 0).state = .openState ∧ (pending0.session 0).commit = .pending 7
    ∧ (List.replicate 9 (0 : Byte)).length = 9 := ⟨accepts_pending0, by decide, by decide, by decide⟩

theorem witness_ReadsReportAndChangeNothing :
    ready.Accepts 0 ∧ (ready.session 0).state.present = true ∧ (ready.session 0).state = .openState
    ∧ (127 : Byte).toNat < 128 ∧ 128 ≤ (128 : Byte).toNat ∧ 4 ≤ (4 : Byte).toNat :=
  ⟨accepts_ready 0, by decide, by decide, by decide, by decide, by decide⟩

theorem witness_CommitWaitsOrIsAppliedByRunState :
    staged.Accepts 0 ∧ (staged.session 0).commit = .none ∧ staged.validate 0 (staged.session 0).staging = none
    ∧ staged.time.run = .stopped ∧ (inRun .held).validate 0 ((inRun .held).session 0).staging = none
    ∧ (inRun .held).time.run = .held := ⟨accepts_staged, by decide, by decide, by decide, by decide, by decide⟩

/-- ASSERT entries on both lines of the interlocked pair at one offset. -/
def clash : List Entry := [entry 0 3 (.drive 0) .assert, entry 1 3 (.drive 1) .toggle]

theorem witness_CommitRefusalsChangeNothing :
    (pending0.Accepts 0 ∧ (pending0.session 0).commit = .pending 7)
    ∧ (withSession { member with staging := clash }).validate 0 clash = some (.interlock 0 1)
    ∧ (filled.bound 0).limit < clash.length
    ∧ (clash = [] ++ entry 0 3 (.drive 0) .assert :: [entry 1 3 (.drive 1) .toggle]
      ∧ ready.ownsTarget 0 (.drive 4) = false ∧ ready.ownsTarget 0 (.drive 0) = true
      ∧ ready.refusingPeriod 10 = some ⟨10, none⟩ ∧ ready.refusingPeriod 3 = none
      ∧ interlocked ready.settings 0 = true
      ∧ clash.find? (fun x => x.target == .drive (partner 0) && x.offset == 3 && x.action.assertCapable) =
        some (entry 1 3 (.drive 1) .toggle)) :=
  ⟨⟨accepts_pending0, by decide⟩, by decide, by decide, by decide⟩

theorem witness_AbandonWithdrawsThePendingCommit :
    (pending0.Accepts 0 ∧ (pending0.session 0).commit = .pending 7)
    ∧ ready.Accepts 0 ∧ (ready.session 0).commit = .none :=
  ⟨⟨accepts_pending0, by decide⟩, accepts_ready 0, by decide⟩

/-! ## Witnesses: drive lines -/

/-- D0 ASSERTED, and D1 in guard at its last count. -/
def blockedPair : State := (ready.setLine 0 ⟨true, .free, some 1, none, 0⟩).setLine 1 ⟨false, .free, none, none, 1⟩

theorem witness_ForcingHoldsAndReturnsALine :
    ready.Accepts 0 ∧ (ready.session 0).state = .openState ∧ ready.driveOwner.read 0 = some 0
    ∧ ready.driveOwner.read 15 ≠ some 0 ∧ 16 ≤ (16 : Byte).toNat ∧ 2 ≤ (2 : Byte).toNat
    ∧ (blockedPair.driveOwner.read 0 = some 0 ∧ (blockedPair.line 0).forcing ≠ .forcedAsserted
      ∧ interlocked blockedPair.settings 0 = true ∧ 0 < (blockedPair.line (partner 0)).guardRemaining)
    ∧ ((ready.line (partner 0)).asserted = false ∧ (ready.line (partner 0)).guardRemaining = 0)
    ∧ (ready.line 0).forcing = .free ∧ ((after (.forceLine 0 9 [0, 1]) ready).line 0).forcing = .forcedAsserted
    ∧ ((after (.forceLine 0 9 [0, 0]) ready).line 0).forcing = .forcedDeasserted :=
  ⟨accepts_ready 0, by decide, by decide, by decide, by decide, by decide, by decide, by decide, by decide, by decide,
    by decide⟩

/-- FORCE_LINE with level ASSERTED on a blocked line with a deferral: INTERLOCK, and the deferral stays (log entry 33). -/
theorem test_refused_force_keeps_the_deferral :
    let s := (ready.setLine 0 ⟨false, .free, none, some ⟨.assert, 0⟩, 0⟩).setLine 1 ⟨false, .free, none, none, 2⟩
    answer (.forceLine 0 9 [0, 1]) s = some .interlock
    ∧ ((after (.forceLine 0 9 [0, 1]) s).line 0).deferred = some ⟨.assert, 0⟩
    ∧ ((after (.forceLine 0 9 [0, 0]) s).line 0).deferred = none := by decide

theorem witness_DueActionsAndPinsFollowTheTables :
    (⟨true, .forcedAsserted, none, none, 0⟩ : DriveLine).forcing ≠ .free
    ∧ (⟨true, .free, none, none, 0⟩ : DriveLine).asserted = true ∧ DriveLine.idle.forcing = .free
    ∧ DriveLine.idle.asserted = false ∧ DriveLine.idle.deferred = none
    ∧ (⟨false, .free, none, some ⟨.assert, 1⟩, 0⟩ : DriveLine).deferred ≠ none
    ∧ ((after (.forceLine 0 9 [0, 1]) ready).line 0).asserted = true ∧ ready.settings.idleLevel.read 0 = .low
    ∧ (ready.settings.updated fullest).idleLevel.read 0 = .high ∧ ready.driveOwner.read 5 = none := by decide

/-- D0 in guard at its last count, and D1 held back since cycle 0; D2 ASSERTED with a pulse of 2 counts left. -/
def heldBack : State :=
  (((inRun .running).setLine 0 ⟨false, .free, none, none, 1⟩).setLine 1 ⟨false, .free, none, some ⟨.pulse 4, 0⟩, 0⟩).setLine
    2 ⟨true, .free, some 2, none, 0⟩

/-- Its lines with every guard and pulse end lowered. -/
def heldBackLow : Bank DriveLine 16 :=
  (heldBack.drive.write 0 ⟨false, .free, none, none, 0⟩).write 2 ⟨true, .free, some 1, none, 0⟩

theorem witness_DeferredAssertsAreTakenOrLapse :
    heldBackLow.read 0 = { heldBack.line 0 with guardRemaining := (heldBack.line 0).guardRemaining - 1 }
    ∧ heldBackLow.read 1 = { heldBack.line 1 with guardRemaining := (heldBack.line 1).guardRemaining - 1 }
    ∧ heldBackLow.read 2 = { heldBack.line 2 with pulseEnd := some 1, guardRemaining := 0 }
    ∧ (∀ d : Drive, 3 ≤ d.val → heldBackLow.read d = heldBack.line d)
    ∧ (heldBack.line 0).deferred = none ∧ (heldBack.line 1).deferred = some ⟨.pulse 4, 0⟩
    ∧ blocked heldBack.settings heldBackLow 1 = false ∧ blocked heldBack.settings heldBack.drive 1 = true
    ∧ (heldBack.countdown 0).line 1 = ⟨true, .free, some 4, none, 0⟩
    ∧ ((heldBack.countdown 0).session 0).notices = [⟨.interlockResolved 1 0 true, 0⟩] := by decide

theorem witness_PulseAndGuardEndAtTheLastCount :
    blockedPair.live = true ∧ ({ blockedPair with time := (inRun .running).time } : State).time.run = .running
    ∧ (blockedPair.line 0).pulseEnd = some 1 ∧ (blockedPair.line 0).asserted = true
    ∧ (blockedPair.line 1).guardRemaining = 1
    ∧ ¬ (blockedPair.time.run = .running ∧ (blockedPair.line 0).pulseEnd = some 1) := by decide

/-! ## Witnesses: sense lines -/

theorem witness_SetSenseSetsUpTheLine :
    ready.Accepts 0 ∧ (ready.session 0).state = .openState ∧ edgeSelectOf (3 : Byte).toNat = some .both
    ∧ prescaleOf (8 : Byte).toNat = some 8 ∧ (15 : Byte).toNat ≤ 15 ∧ ready.senseOwner.read 0 = some 0
    ∧ ready.senseOwner.read 7 ≠ some 0 ∧ edgeSelectOf (4 : Byte).toNat = none
    ∧ edgeSelectOf 0 = none ∧ prescaleOf 0 = none ∧ prescaleOf (3 : Byte).toNat = none ∧ 8 ≤ (8 : Byte).toNat
    ∧ 16 ≤ (16 : Byte).toNat :=
  ⟨accepts_ready 0, by decide, by decide, by decide, by decide, by decide, by decide, by decide, by decide, by decide,
    by decide, by decide, by decide⟩

theorem witness_ArmingClearsTheCounter :
    ready.Accepts 0 ∧ (ready.session 0).state = .openState ∧ ready.senseOwner.read 0 = some 0
    ∧ ready.senseOwner.read 7 ≠ some 0 ∧ 8 ≤ (8 : Byte).toNat :=
  ⟨accepts_ready 0, by decide, by decide, by decide, by decide⟩

theorem witness_ReadCapturesTakesTheOldest :
    ready.Accepts 0 ∧ (ready.session 0).state.present = true ∧ 1 ≤ (1 : Byte).toNat ∧ (6 : Byte).toNat ≤ 6
    ∧ (0 : Byte).toNat = 0 ∧ 7 ≤ (7 : Byte).toNat :=
  ⟨accepts_ready 0, by decide, by decide, by decide, by decide, by decide⟩

theorem witness_CaptureEdgeCountsTowardThePrescale :
    ready.live = true ∧ ready.senseOwner.read 7 = none ∧ (ready.senseLine 0).armed = false
    ∧ (ready.senseLine 0).select.selects .falling = false ∧ ready.senseOwner.read 0 = some 0
    ∧ ((after (.setSense 0 9 [0, 3, 2, 0]) ready).senseLine 0).prescale = 2
    ∧ ((after (.armSense 0 9 [0]) ready).senseLine 0).armed = true
    ∧ ((after (.armSense 0 9 [0]) ready).senseLine 0).select.selects .rising = true
    ∧ ((after (.armSense 0 9 [0]) ready).senseLine 0).prescale ≤
      ((after (.armSense 0 9 [0]) ready).senseLine 0).counter + 1 := by decide

/-- A record, and a capture queue full of it. -/
def record : CaptureRecord := ⟨.mark 1, 5, 0, 0⟩

theorem witness_RecordsJoinOrAreCounted :
    member.state.present = true ∧ member.captures = []
    ∧ ({ member with captures := List.replicate 31 record } : Session).captures ≠ []
    ∧ ({ member with captures := List.replicate 31 record } : Session).captures.length < 32
    ∧ 32 ≤ ({ member with captures := List.replicate 32 record } : Session).captures.length
    ∧ ({ member with captures := List.replicate 32 record } : Session).captures.getLast? = some record := by decide

/-! ## Witnesses: the ballot and notices -/

/-- Agent 0 alone. -/
def alone (r : RunState) : State := (inRun r).setSession 1 (Session.vacant .closed 0)

theorem witness_ProposeOpensABallot :
    ready.Accepts 0 ∧ (ready.session 0).state = .openState ∧ record20.length = 38 ∧ ready.ballot.slot = .empty
    ∧ (1 : Byte) ≠ 0 ∧ unusedBitSet record20 = false ∧ ready.settingFault record20 = none
    ∧ ready.offsetConflict (proposalOf record20) = none ∧ ready.quotaConflict (proposalOf record20) = none
    ∧ (∀ d, (proposalOf record20).lockSet.read d = true → ready.driveOwner.read d = none)
    ∧ (Bank.build (n := 4) fun b => b != 0 && (ready.session b).state == .openState).read 1 = true
    ∧ (∀ r, ∀ b, (Bank.build (n := 4) fun b => b != 0 && ((alone r).session b).state == .openState).read b = false)
    ∧ (alone .running).time.run.isRunning = true ∧ (alone .armed).time.run.isRunning = false := by
  refine ⟨accepts_ready 0, by decide, by decide, by decide, by decide, by decide, by decide, by decide, by decide,
    by decide, by decide, ?_, by decide, by decide⟩
  intro r
  cases r <;> decide

/-- Records that fail one check each: nothing present, a period of 3, a quota of 0 for agent 0, and pair 0. -/
def emptyRecord : List Byte := List.replicate 38 0

def record3 : List Byte := [0x80, 0, 0, 0, 0, 0, 3] ++ List.replicate 31 0

def recordQuota : List Byte := [0, 1] ++ List.replicate 36 0

def recordPair : List Byte := [0, 0, 1] ++ List.replicate 35 0

theorem witness_ProposeChecksInOrder :
    ready.Accepts 0 ∧ (ready.session 0).state = .openState ∧ emptyRecord.length = 38
    ∧ (withSlot (.openSlot open1)).ballot.slot.proposer? = some 1 ∧ ready.ballot.slot = .empty
    ∧ unusedBitSet ([0, 0x10] ++ List.replicate 36 0) = true ∧ ready.settingFault emptyRecord = some .empty
    ∧ (staged.settingFault record3 = none ∧ (staged.offsetConflict (proposalOf record3)).isSome = true)
    ∧ (staged.settingFault recordQuota = none ∧ staged.offsetConflict (proposalOf recordQuota) = none
      ∧ staged.quotaConflict (proposalOf recordQuota) = some 0 ∧ (proposalOf recordQuota).quota.read 0 = some 0)
    ∧ (ready.settingFault recordPair = none ∧ ready.offsetConflict (proposalOf recordPair) = none
      ∧ ready.quotaConflict (proposalOf recordPair) = none ∧ (proposalOf recordPair).lockSet.read 1 = true
      ∧ ready.driveOwner.read 1 ≠ none) :=
  ⟨accepts_ready 0, by decide, by decide, by decide, by decide, by decide, by decide, by decide, by decide, by decide⟩

theorem witness_ProposalChecksFollowTheRules :
    ready.settingFault emptyRecord = some .empty ∧ ready.settingFault record20 = none
    ∧ period20.period = some 20 ∧ (proposalOf recordQuota).period = none
    ∧ staged.offsetConflict (proposalOf record3) = some ⟨0, entry 0 3 (.drive 0) .assert, false⟩
    ∧ ready.ballot.slot = .empty ∧ (withSlot (.openSlot open1)).ballot.slot = .openSlot open1
    ∧ locking.ballot.slot.proposal?.map (fun q => q.lockSet.read 15) = some true := by decide

theorem witness_VoteDecidesTheBallot :
    (withSlot (.openSlot open1)).Accepts 0 ∧ ((withSlot (.openSlot open1)).session 0).state = .openState
    ∧ ((withSlot (.openSlot open1)).ballot.number = (0 : Byte) ++ (5 : Byte))
    ∧ ((withSlot (.openSlot open1)).ballot.number ≠ (1 : Byte) ++ (5 : Byte))
    ∧ (3 : Byte) ≠ 1 ∧ (3 : Byte) ≠ 2 ∧ open1.electorate.read 1 = false ∧ open1.electorate.read 0 = true
    ∧ open1.accepted.read 0 = false ∧ open1.accepted.write 0 true = open1.electorate
    ∧ (open1.accepted.write 0 true ≠ open1.electorate.write 2 true)
    ∧ ({ open1 with accepted := open1.electorate } : OpenBallot).accepted.read 0 = true :=
  ⟨⟨by decide, by decide, by decide, by decide⟩, by decide, by decide, by decide, by decide, by decide, by decide, by decide,
    by decide, by decide, by decide, by decide⟩

theorem witness_AppliedSettingsFollowTheTables :
    ready.time.run = .stopped ∧ period20.run ≠ some .run ∧ period20.run ≠ some .stop ∧ fullest.run = some .stop
    ∧ (inRun .armed).time.run = .armed ∧ (inRun .running).time.run = .running
    ∧ (((inMode .gated .armed).applySettings period20).settings.mode = .gated
      ∧ ((inMode .gated .armed).applySettings period20).time.run = .held)
    ∧ ((inMode .triggered .armed).applySettings period20).settings.mode = .triggered
    ∧ ((inMode .restart .armed).applySettings period20).settings.mode = .restart
    ∧ (((inRun .running).applySettings fullest).time.run ≠ (inRun .running).time.run
      ∧ ((inRun .running).applySettings fullest).time.run.isRunning = false)
    ∧ (ready.line 0).asserted = false ∧ fullest.idleLevel.read 0 = some .high := by decide

/-- A ballot PASSED that carries RUN, on the stopped time base, with an ASSERT active on D0 at offset 0. -/
def starting : State :=
  { withSlot (.passed 1 { period20 with run := some .run }) with
    sessions := ready.sessions.write 0 { member with active := [entry 0 0 (.drive 0) .assert] } }

theorem witness_ImmediateApplicationStartsAndTells :
    starting.ballot.slot = .passed 1 { period20 with run := some .run } ∧ starting.time.run.isRunning = false
    ∧ (starting.applySettings { period20 with run := some .run }).time.run = .running
    ∧ (starting.applyIfIdle.line 0).asserted = true
    ∧ (starting.applyIfIdle.session 1).notices =
      [⟨.timebaseChanged .running .free .settings 0, 1⟩, ⟨.settingsApplied 5 .immediate, 1⟩]
    ∧ (inRun .held).time.run.isRunning = true ∧ ∀ b p, ready.ballot.slot ≠ .passed b p := by
  refine ⟨by decide, by decide, by decide, by decide, by decide, by decide, ?_⟩
  intro b p h
  cases h

theorem witness_RetractFailsTheOwnBallot :
    (withSlot (.openSlot open1)).Accepts 1
    ∧ ((withSession { member with state := .closing }).session 0).state = .closing
    ∧ ((withSlot (.openSlot open1)).session 1).state = .openState
    ∧ (withSlot (.openSlot open1)).ballot.number = (0 : Byte) ++ (5 : Byte)
    ∧ open1.proposer = 1 ∧ open1.proposer ≠ 0 ∧ ∀ b, (withSlot (.passed 1 period20)).ballot.slot ≠ .openSlot b := by
  refine ⟨⟨by decide, by decide, by decide, by decide⟩, by decide, by decide, by decide, by decide, by decide, ?_⟩
  intro b h
  cases h

/-- A notice. -/
def notice : Notice := ⟨.settingsApplied 1 .boundary, 0⟩

/-- A full queue that has lost one notice. -/
def lossy : Session := { member with notices := List.replicate 8 notice, lostNotices := 1, firstLoss := some 6 }

theorem witness_NoticesJoinAreCountedAndRead :
    (({ member with notices := List.replicate 7 notice } : Session).notices.length < 8 ∧ 8 ≤ lossy.notices.length)
    ∧ (withSession lossy).Accepts 0 ∧ ((withSession lossy).session 0).state.present = true
    ∧ 1 ≤ (1 : Byte).toNat ∧ (5 : Byte).toNat ≤ 5 ∧ (0 : Byte).toNat = 0 ∧ 6 ≤ (6 : Byte).toNat
    ∧ (ready.session 0).notices = [] ∧ lossy.notices ≠ [] ∧ 0 < lossy.lostNotices ∧ lossy.firstLoss = some 6 :=
  ⟨by decide, ⟨by decide, by decide, by decide, by decide⟩, by decide, by decide, by decide, by decide, by decide, by decide,
    by decide, by decide, by decide⟩

/-! ## Witnesses: the time base and the ports -/

/-- RUNNING at a count, with an ASSERT active on D4 at offset 9 and an ARM on S0 there. -/
def atCount (k : Nat) : State :=
  ({ inRun .running with time := { (inRun .running).time with count := k } } : State).setSession 0
    { member with active := [entry 0 9 (.drive 4) .assert, entry 1 9 (.sense 0) .arm] }

/-- At count 9 the lines of the interlocked pair 0 have an ASSERT each, of agent 0 and of agent 1, and agent 1 has a MARK. -/
def crowded : State :=
  (inRun .running).setSession 0 { member with active := [entry 3 9 (.drive 1) .assert, entry 7 9 (.drive 0) .assert] }
    |>.setSession 1 { member with active := [entry 0 9 .marker (.mark 6), ⟨1, .drive 4, .toggle, 9, some ⟨2, 1⟩⟩] }

theorem witness_CountsReachedServeTheirDueEntries :
    crowded.dueOn 9 (.drive 0) = [(0, entry 7 9 (.drive 0) .assert)]
    ∧ crowded.dueOn 9 (.drive 1) = [(0, entry 3 9 (.drive 1) .assert)] ∧ crowded.dueOn 9 (.drive 4) = []
    ∧ crowded.dueOn 9 .marker = [(1, entry 0 9 .marker (.mark 6))]
    ∧ ((crowded.reach 9).line 0).asserted = true ∧ ((crowded.reach 9).line 1).deferred = some ⟨.assert, 0⟩
    ∧ ((crowded.reach 9).session 1).captures = [⟨.mark 6, 0, 0, 9⟩]
    ∧ blocked crowded.settings crowded.drive 0 = false ∧ blocked crowded.settings (crowded.reach 9).drive 1 = true := by
  decide

theorem witness_CountAdvanceCountsAndServes :
    (atCount 8).live = true ∧ ready.time.run ≠ .running ∧ (atCount 8).time.run = .running
    ∧ (atCount 8).time.count + 1 < (atCount 8).settings.period ∧ ((atCount 8).line 4).deferred = none
    ∧ (atCount 8).dueOn 9 (.drive 5) = [] ∧ (atCount 8).dueOn 9 (.sense 7) = []
    ∧ (atCount 8).dueOn 9 (.drive 4) = [(0, entry 0 9 (.drive 4) .assert)]
    ∧ interlocked (atCount 8).settings 4 = false
    ∧ (atCount 8).dueOn 9 (.sense 0) = [(0, entry 1 9 (.sense 0) .arm)]
    ∧ (entry 1 9 (.sense 0) .arm).action = .arm ∧ (entry 1 9 (.sense 0) .disarm).action = .disarm := by decide

theorem witness_BoundaryRunsItsFiveParts :
    (atCount 9).live = true ∧ (atCount 9).time.run = .running
    ∧ (atCount 9).settings.period ≤ (atCount 9).time.count + 1
    ∧ (withSlot (.passed 1 period20)).ballot.slot = .passed 1 period20
    ∧ (∀ b p, (atCount 9).ballot.slot ≠ .passed b p) ∧ (atCount 9).time.budgetRemaining ≠ 1
    ∧ (atCount 9).settings.mode ≠ .gated := by
  refine ⟨by decide, by decide, by decide, by decide, ?_, by decide, by decide⟩
  intro b p h
  cases h

/-- RUNNING in the last cycle of a budget. -/
def lastCycle (m : Mode) (k : Nat) : State :=
  { inMode m .running with time := { (inMode m .running).time with count := k, budgetRemaining := 1 } }

theorem witness_BudgetRunOutStopsTheTimeBase :
    (lastCycle .triggered 9).live = true ∧ (lastCycle .triggered 9).time.run = .running
    ∧ (lastCycle .triggered 9).time.budgetRemaining = 1
    ∧ (lastCycle .triggered 9).settings.period ≤ (lastCycle .triggered 9).time.count + 1
    ∧ (lastCycle .restart 0).settings.mode = .restart ∧ (lastCycle .free 8).settings.mode ≠ .restart
    ∧ (lastCycle .free 8).time.count + 1 < (lastCycle .free 8).settings.period
    ∧ ¬ (ready.time.run = .running ∧ ready.time.budgetRemaining = 1)
    ∧ ∀ b p, (lastCycle .triggered 9).ballot.slot ≠ .passed b p := by
  refine ⟨by decide, by decide, by decide, by decide, by decide, by decide, by decide, by decide, ?_⟩
  intro b p h
  cases h

theorem witness_TriggersStartAndGatesHold :
    ((inMode .triggered .armed).live = true ∧ (inMode .triggered .armed).settings.triggerSource = some 0
      ∧ (inMode .triggered .armed).time.run = .armed ∧ (inMode .triggered .armed).settings.mode = .triggered)
    ∧ ((inMode .restart .running).time.run = .running ∧ (inMode .restart .running).settings.mode = .restart
      ∧ (inMode .restart .running).time.budgetRemaining ≠ 1)
    ∧ ((inMode .gated .running).settings.gateSource = some 0 ∧ (inMode .gated .running).settings.mode = .gated
      ∧ (inMode .gated .running).time.run = .running ∧ (inMode .gated .held).time.run = .held
      ∧ (inMode .gated .held).time.originReached = false)
    ∧ ({ inMode .gated .held with time := { (inMode .gated .held).time with originReached := true } } : State).time.run
      = .held
    ∧ ready.settings.triggerSource = none ∧ ready.settings.gateSource = none := by decide

/-- A count advance and the lease expiry of agent 1 stand. -/
def tickStands : State :=
  { (inRun .running).setSession 1 { member with lease := some ⟨100, 0⟩ } with arisen := [.countAdvance] }

theorem witness_RefclkPeriodSamplesAndDivides :
    (inRun .running).live = true ∧ (inRun .running).untaken = []
    ∧ (∀ p, ((inRun .running).port p).selected = true → ((inRun .running).port p).transaction ≠ .idle)
    ∧ (∀ p, ((inRun .running).port p).selected = false → ((inRun .running).port p).transaction = .idle)
    ∧ ((inStage .done).port 0).selected = true ∧ ((inStage .done).port 0).transaction ≠ .idle
    ∧ (unseenRise.live = true ∧ unseenRise.untaken = [] ∧ (unseenRise.port 0).selected = false
      ∧ (unseenRise.port 0).transaction ≠ .idle)
    ∧ (unseenFall.live = true ∧ unseenFall.untaken = [] ∧ (unseenFall.port 0).selected = true
      ∧ (unseenFall.port 0).transaction = .idle)
    ∧ (tickStands.live = true ∧ tickStands.untaken = [.countAdvance, .leaseExpiry 1]) := by decide

/-- A period that finds a count advance standing takes it first; one that finds SELn_N fallen begins the transaction. -/
theorem test_period_takes_what_stands :
    (after (.refclkPeriod (Bank.fill 8 .low)) { inRun .running with arisen := [.countAdvance] }).time.count = 1
    ∧ ((after (.refclkPeriod (Bank.fill 8 .low)) unseenFall).port 0).transaction = .status 0 := by
  constructor <;> decide +kernel

theorem witness_TransactionsBeginChooseAndEnd :
    ready.live = true ∧ (ready.port 0).transaction = .idle ∧ ((inStage .done).port 0).transaction ≠ .idle
    ∧ ((inStage .command).port 0).transaction = .command ∧ ((waiting 1).port 0).responses ≠ []
    ∧ ((inStage .command).port 0).selected = true
    ∧ (unseenRise.live = true ∧ (unseenRise.port 0).selected = false ∧ (unseenRise.port 0).transaction ≠ .idle)
    ∧ (unseenFall.live = true ∧ (unseenFall.port 0).selected = true ∧ (unseenFall.port 0).transaction = .idle)
    ∧ (ready.port 0).responses = [] ∧ (0 : Byte) ≠ 0xA5 ∧ (0 : Byte) ≠ 0x5A ∧ (0 : Byte) ≠ 0xC3
    ∧ ((inStage (.receiving [])).port 0).transaction = .receiving [] ∧ (ready.port 0).selected = false
    ∧ ((inStage (.status 0)).port 0).selected = true ∧ ((inStage (.status 0)).port 0).transaction = .status 0 := by
  decide

theorem witness_BytesShiftInAndOut :
    ready.live = true ∧ (ready.port 0).transaction = .idle ∧ (ready.port 0).selected = false
    ∧ ((inStage (.status 0)).port 0).selected = true ∧ ((inStage (.status 0)).port 0).transaction = .status 0
    ∧ ((inStage (.receiving [5, 1])).port 0).transaction = .receiving [5, 1] ∧ 61 ≤ (61 : Byte).toNat
    ∧ (60 : Byte).toNat ≤ 60 ∧ (Instr.reserve 0 1 [0, 1, 0]).frame? = some ⟨0, 0x05, 1, [0, 1, 0]⟩
    ∧ ([0x05, 1, 3, 0, 1] : List Byte) ++ [0] = 0x05 :: 1 :: BitVec.ofNat 8 3 :: [0, 1, 0]
    ∧ 0 + 1 < reply.bytes.length ∧ reply.bytes.length ≤ 3 + 1
    ∧ ((inStage (.sending 3)).port 0).transaction = .sending 3
    ∧ ((inStage (.marker 3)).port 0).transaction = .marker 3 ∧ ((inStage .done).port 0).transaction = .done
    ∧ ((inStage .ignored).port 0).transaction = .ignored := by decide

theorem witness_ResponseFramesFollowTheLayouts :
    (∀ commit n bound next entries, (Data.none) = .stagedPage commit n bound next entries → entries.length ≤ 5)
    ∧ (List.replicate 5 (entry 0 3 (.drive 0) .assert)).length ≤ 5 ∧ (List.replicate 6 record).length ≤ 6
    ∧ (List.replicate 5 notice).length ≤ 5 := by
  refine ⟨?_, by decide, by decide, by decide⟩
  intro commit n bound next entries h
  cases h

end Tests
end

section
/-! SUPPORT. What the blocks that serve due entries, count down and queue notices can change: drive lines, sense lines
and the queues of the sessions. A relation between the states before and after, with one lemma for each operation. -/

namespace Sys2Proof.Machine

/-! ## Session records that stay -/

theorem Session.SameRecord.refl (q : Session) : q.SameRecord q := ⟨rfl, rfl, rfl, rfl, rfl, rfl, rfl⟩

theorem Session.SameRecord.trans {q r x : Session} (h : q.SameRecord r) (k : r.SameRecord x) : q.SameRecord x :=
  ⟨k.state.trans h.state, k.epoch.trans h.epoch, k.lease.trans h.lease, k.commit.trans h.commit,
    k.staging.trans h.staging, k.active.trans h.active, k.applied.trans h.applied⟩

theorem Session.sameRecord_offer (q : Session) (x : Notice) : q.SameRecord (q.offer x) := by
  constructor <;> simp

/-! ## Drive lines, sense lines and queues -/

/-- From `s` to `t`, only drive lines, sense lines and the queues of the sessions have changed. -/
structure State.Served (s t : State) : Prop where
  frame : t = { s with drive := t.drive, sense := t.sense, sessions := t.sessions }
  records : ∀ a, (s.session a).SameRecord (t.session a)

namespace State.Served

variable {s t u : State}

theorem refl (s : State) : s.Served s := ⟨rfl, fun _ => .refl _⟩

theorem trans (h : s.Served t) (k : t.Served u) : s.Served u := by
  refine ⟨?_, fun a => (h.records a).trans (k.records a)⟩
  have eq := k.frame
  rw [h.frame] at eq
  exact eq

theorem foldl {α : Type} {f : State → α → State} (hf : ∀ (s : State) (x : α), s.Served (f s x)) (xs : List α)
    (s : State) : s.Served (xs.foldl f s) := by
  induction xs generalizing s with
  | nil => exact refl s
  | cons x xs ih => exact (hf s x).trans (ih _)

/-- The lines may be anything, where no session changes. -/
theorem of_lines (drive : Bank DriveLine 16) (sense : Bank SenseLine 8) :
    s.Served { s with drive := drive, sense := sense } := ⟨rfl, fun _ => .refl _⟩

theorem settings (h : s.Served t) : t.settings = s.settings := by rw [h.frame]

theorem time (h : s.Served t) : t.time = s.time := by rw [h.frame]

theorem ballot (h : s.Served t) : t.ballot = s.ballot := by rw [h.frame]

theorem driveOwner (h : s.Served t) : t.driveOwner = s.driveOwner := by rw [h.frame]

theorem senseOwner (h : s.Served t) : t.senseOwner = s.senseOwner := by rw [h.frame]

theorem ports (h : s.Served t) : t.ports = s.ports := by rw [h.frame]

theorem resetLow (h : s.Served t) : t.resetLow = s.resetLow := by rw [h.frame]

theorem refclk (h : s.Served t) : t.refclk = s.refclk := by rw [h.frame]

theorem pending (h : s.Served t) : t.pending = s.pending := by rw [h.frame]

end State.Served

section

variable (s : State)

theorem State.served_notifyEach (n : Cycle) (k : NoticeKind) (who : Agent → Bool) :
    s.Served (s.notifyEach n k who) := by
  refine ⟨rfl, fun a => ?_⟩
  rw [State.session_notifyEach]
  split
  · exact Session.sameRecord_offer _ _
  · exact .refl _

/-- A session whose record is kept may be written with other queues. -/
theorem State.served_setSession (a : Agent) (q : Session) (h : (s.session a).SameRecord q) :
    s.Served (s.setSession a q) := by
  refine ⟨rfl, fun b => ?_⟩
  rw [State.session_setSession]
  split
  · next e => subst e; exact h
  · exact .refl _

theorem Session.sameRecord_countLoss (q : Session) (x : LossSource) : q.SameRecord (q.countLoss x) := by
  cases x <;> exact ⟨rfl, rfl, rfl, rfl, rfl, rfl, rfl⟩

theorem State.served_makeRecord (a : Agent) (kind : RecordKind) (count : Nat) :
    s.Served (s.makeRecord a kind count) := by
  unfold State.makeRecord
  dsimp only
  split
  · have joined := s.served_setSession a
      { s.session a with
        captures := (s.session a).captures ++ [⟨kind, (s.session a).sequence, s.time.cycle, count⟩]
        sequence := (s.session a).sequence + 1 } ⟨rfl, rfl, rfl, rfl, rfl, rfl, rfl⟩
    split
    · exact joined.trans (State.served_notifyEach _ _ _ _)
    · exact joined
  · have dropped := s.served_setSession a
      { (s.session a).countLoss kind.source with
        sequence := (s.session a).sequenceAfterDrop, overrun := true } <| by
      obtain ⟨h1, h2, h3, h4, h5, h6, h7⟩ := (s.session a).sameRecord_countLoss kind.source
      exact ⟨h1, h2, h3, h4, h5, h6, h7⟩
    split
    · exact dropped
    · exact dropped.trans (State.served_notifyEach _ _ _ _)

/-- Arming or disarming a line, as R121 says it: any other action is not one on a sense line. -/
def SenseLine.served (act : Action) (l : SenseLine) : SenseLine :=
  if act = .arm then { l with armed := true, counter := 0 }
  else if act = .disarm then { l with armed := false, counter := 0 }
  else l

@[simp] theorem State.setSenseLine_senseLine (i : Sense) : s.setSenseLine i (s.senseLine i) = s := by
  simp [State.setSenseLine, State.senseLine]

@[simp] theorem State.setLine_line (d : Drive) : s.setLine d (s.line d) = s := by
  simp [State.setLine, State.line]

@[simp] theorem State.setLine_setLine (d : Drive) (l m : DriveLine) : (s.setLine d l).setLine d m = s.setLine d m := by
  simp [State.setLine]

@[simp] theorem State.setSenseLine_setSenseLine (i : Sense) (l m : SenseLine) :
    (s.setSenseLine i l).setSenseLine i m = s.setSenseLine i m := by
  simp [State.setSenseLine]

theorem State.serveSense_eq (i : Sense) (act : Action) :
    s.serveSense i act = s.setSenseLine i ((s.senseLine i).served act) := by
  cases act <;> simp [State.serveSense, SenseLine.served, SenseLine.arm, SenseLine.disarm]

/-! ## Serving one due entry, by its target -/

theorem State.serve_drive {x : Agent × Entry} {d : Drive} (h : x.2.target = .drive d) :
    s.serve x = s.serveDrive d x.2.action := by
  simp [State.serve, h]

theorem State.serve_sense {x : Agent × Entry} {i : Sense} (h : x.2.target = .sense i) :
    s.serve x = s.setSenseLine i ((s.senseLine i).served x.2.action) := by
  simp [State.serve, h, State.serveSense_eq]

/-- A MARKER entry makes a record if its action is a MARK (R126). -/
def State.serveMark (count : Nat) (s : State) (x : Agent × Entry) : State :=
  match x.2.action with
  | .mark label => s.makeRecord x.1 (.mark label) count
  | _ => s

theorem State.serve_marker {x : Agent × Entry} (h : x.2.target = .marker) :
    s.serve x = s.serveMark x.2.offset x := by
  unfold State.serve State.serveMark
  rw [h]
  cases x.2.action <;> rfl

theorem State.served_serveMark (count : Nat) (x : Agent × Entry) : s.Served (s.serveMark count x) := by
  unfold State.serveMark
  split
  · exact s.served_makeRecord _ _ _
  · exact .refl s

theorem State.served_serve (x : Agent × Entry) : s.Served (s.serve x) := by
  cases h : x.2.target with
  | drive d => rw [s.serve_drive h]; exact .of_lines _ _
  | sense i => rw [s.serve_sense h]; exact .of_lines _ _
  | marker => rw [s.serve_marker h]; exact s.served_serveMark _ _

/-! ## The countdown and the lapse of deferred asserts -/

theorem State.served_notifyResolved (n : Cycle) (d : Drive) (x : Deferred) (taken : Bool) :
    s.Served (s.notifyResolved n d x taken) := by
  unfold State.notifyResolved
  split
  · exact .refl s
  · exact s.served_notifyEach _ _ _

theorem State.served_takeDeferral (n : Cycle) (d : Drive) : s.Served (s.takeDeferral n d) := by
  unfold State.takeDeferral
  split
  · exact .refl s
  · split
    · exact .refl s
    · exact State.Served.trans (.of_lines _ _) (State.served_notifyResolved _ _ _ _ _)

theorem State.served_countdown (n : Cycle) : s.Served (s.countdown n) :=
  State.Served.trans (.of_lines _ _) (.foldl (fun t d => t.served_takeDeferral n d) _ _)

theorem State.served_lapseDeferral (n : Cycle) (d : Drive) : s.Served (s.lapseDeferral n d) := by
  unfold State.lapseDeferral
  split
  · exact .refl s
  · split
    · exact .refl s
    · exact State.Served.trans (.of_lines _ _) (State.served_notifyResolved _ _ _ _ _)

theorem State.served_lapseDeferrals (n : Cycle) : s.Served (s.lapseDeferrals n) :=
  .foldl (fun t d => t.served_lapseDeferral n d) _ _

end

end Sys2Proof.Machine
end

section
/-! SUPPORT. The entries due at a count, and what reaching the count does to each line, each sense line and the sessions
(R2, R59, R75). -/

namespace Sys2Proof.Machine

/-! ## Which entries are due (R58) -/

theorem Entry.matches_iff (e : Entry) (cycle : Cycle) :
    e.matches cycle = true ↔ ∀ c, e.cadence = some c → cycle.toNat % c.interval = c.phase := by
  unfold Entry.matches
  cases e.cadence <;> simp

theorem State.mem_dueOf (s : State) (count : Nat) (t : Target) (a b : Agent) (e : Entry) :
    (b, e) ∈ s.dueOf count t a ↔ b = a ∧ e ∈ (s.session a).active ∧ e.target = t ∧ e.offset = count
      ∧ e.matches s.time.cycle = true := by
  simp only [State.dueOf, List.mem_map, List.mem_filter, Bool.and_eq_true, beq_iff_eq, Prod.mk.injEq, and_assoc]
  constructor
  · rintro ⟨x, mem, target, offset, matching, rfl, rfl⟩
    exact ⟨rfl, mem, target, offset, matching⟩
  · rintro ⟨rfl, mem, target, offset, matching⟩
    exact ⟨e, mem, target, offset, matching, rfl, rfl⟩

theorem State.mem_dueOn (s : State) (count : Nat) (t : Target) (a : Agent) (e : Entry) :
    (a, e) ∈ s.dueOn count t ↔ e ∈ (s.session a).active ∧ e.target = t ∧ e.offset = count
      ∧ e.matches s.time.cycle = true := by
  simp only [State.dueOn, List.mem_flatMap, List.mem_finRange, true_and, State.mem_dueOf]
  exact ⟨fun ⟨_, eq, h⟩ => eq ▸ h, fun h => ⟨a, rfl, h⟩⟩

/-- Due entries stand in owner order (R75). -/
theorem State.dueOn_sorted (s : State) (count : Nat) (t : Target) :
    (s.dueOn count t).Pairwise fun x y => x.1 ≤ y.1 := by
  unfold State.dueOn
  rw [List.pairwise_flatMap]
  constructor
  · intro a _
    rw [State.dueOf, List.pairwise_map]
    exact List.pairwise_of_forall fun _ _ => le_refl a
  · refine (List.pairwise_lt_finRange 4).imp fun {a b} lt => ?_
    rintro ⟨a', e⟩ ha ⟨b', f⟩ hb
    rw [State.mem_dueOf] at ha hb
    obtain ⟨rfl, -⟩ := ha
    obtain ⟨rfl, -⟩ := hb
    exact le_of_lt lt

/-- Which entries are due rests on the active parts and the cycle number alone. -/
theorem State.dueOn_congr {s t : State} (active : ∀ a, (t.session a).active = (s.session a).active)
    (cycle : t.time.cycle = s.time.cycle) (count : Nat) (target : Target) :
    t.dueOn count target = s.dueOn count target := by
  simp [State.dueOn, State.dueOf, active, cycle]

theorem State.dueEntries_congr {s t : State} (active : ∀ a, (t.session a).active = (s.session a).active)
    (cycle : t.time.cycle = s.time.cycle) (count : Nat) : t.dueEntries count = s.dueEntries count := by
  simp [State.dueEntries, State.dueOn_congr active cycle]

/-! ## Serving the entries due on one line -/

/-- A line is blocked by its partner alone (R99). -/
theorem blocked_congr (st : Settings) {lines lines' : Bank DriveLine 16} {d : Drive}
    (h : lines'.read (partner d) = lines.read (partner d)) : blocked st lines' d = blocked st lines d := by
  simp [blocked, h]

/-- The due entries of line `d` act on it one after another, on what its partner is all the while. -/
def DriveLine.serveAll (st : Settings) (d : Drive) (held : Bool) (cycle : Cycle) (due : List (Agent × Entry))
    (l : DriveLine) : DriveLine :=
  due.foldl (fun l x => l.serve st d held cycle x.2.action) l

theorem State.foldl_serve_drive {d : Drive} {due : List (Agent × Entry)} (h : ∀ x ∈ due, x.2.target = .drive d)
    (s : State) : due.foldl State.serve s = s.setLine d
      (DriveLine.serveAll s.settings d (blocked s.settings s.drive d) s.time.cycle due (s.line d)) := by
  induction due generalizing s with
  | nil => simp [DriveLine.serveAll]
  | cons x due ih =>
    have same : blocked s.settings (s.serveDrive d x.2.action).drive d = blocked s.settings s.drive d :=
      blocked_congr _ (Bank.read_write_of_ne _ _ (partner_ne d))
    rw [List.foldl_cons, s.serve_drive (h x (by simp)), ih fun y hy => h y (by simp [hy])]
    simp only [State.serveDrive, State.setLine_settings, State.setLine_time] at same ⊢
    simp [same, DriveLine.serveAll]

theorem State.foldl_serve_sense {i : Sense} {due : List (Agent × Entry)} (h : ∀ x ∈ due, x.2.target = .sense i)
    (s : State) : due.foldl State.serve s =
      s.setSenseLine i (due.foldl (fun l x => l.served x.2.action) (s.senseLine i)) := by
  induction due generalizing s with
  | nil => simp
  | cons x due ih =>
    rw [List.foldl_cons, s.serve_sense (h x (by simp)), ih fun y hy => h y (by simp [hy])]
    simp

/-! ## Serving every line (R75) -/

/-- Drive lines served in ascending order: a line is served on what its partner was, or on what it was left as if it
came before. Nothing else changes. -/
theorem State.foldl_serve_drives {due : Drive → List (Agent × Entry)} (h : ∀ d, ∀ x ∈ due d, x.2.target = .drive d)
    {ds : List Drive} (sorted : ds.Pairwise (· < ·)) (s t : State) (eq : t = (ds.flatMap due).foldl State.serve s) :
    t = { s with drive := t.drive }
    ∧ (∀ d, d ∉ ds → t.line d = s.line d)
    ∧ ∀ d ∈ ds, t.line d = DriveLine.serveAll s.settings d
        (blocked s.settings (if partner d < d then t.drive else s.drive) d) s.time.cycle (due d) (s.line d) := by
  induction ds generalizing s with
  | nil => subst eq; simp
  | cons c ds ih =>
    obtain ⟨first, sorted⟩ := List.pairwise_cons.1 sorted
    rw [List.flatMap_cons, List.foldl_append, State.foldl_serve_drive (h c)] at eq
    generalize made : DriveLine.serveAll s.settings c (blocked s.settings s.drive c) s.time.cycle (due c) (s.line c) = l
      at eq
    obtain ⟨frame, others, served⟩ := ih sorted (s.setLine c l) eq
    have absent : c ∉ ds := fun mem => lt_irrefl c (first c mem)
    have own : t.line c = l := by rw [others c absent]; simp
    refine ⟨frame, fun d out => ?_, fun d mem => ?_⟩
    · obtain ⟨ne, out⟩ := not_or.1 (List.mem_cons.not.1 out)
      rw [others d out]
      simp [ne]
    · rcases List.mem_cons.1 mem with rfl | mem
      · rw [own, ← made]
        split
        · next before =>
          have kept : t.line (partner d) = s.line (partner d) := by
            rw [others _ fun mem => absurd (first _ mem) (not_lt.2 before.le)]
            simp [partner_ne]
          rw [blocked_congr s.settings (lines' := t.drive) (lines := s.drive) kept]
        · rfl
      · have ne : d ≠ c := (first d mem).ne'
        rw [served d mem]
        simp only [State.setLine_settings, State.setLine_time, State.line_setLine, if_neg ne]
        split
        · rfl
        · next after =>
          have other : partner d ≠ c := fun e => after (e ▸ first d mem)
          rw [blocked_congr s.settings (lines' := (s.setLine c l).drive) (lines := s.drive)]
          exact Bank.read_write_of_ne _ _ other

/-- Sense lines served one after another: each takes its own due entries, and nothing else changes. -/
theorem State.foldl_serve_senses {due : Sense → List (Agent × Entry)} (h : ∀ i, ∀ x ∈ due i, x.2.target = .sense i)
    {is : List Sense} (distinct : is.Nodup) (s t : State) (eq : t = (is.flatMap due).foldl State.serve s) :
    t = { s with sense := t.sense }
    ∧ (∀ i, i ∉ is → t.senseLine i = s.senseLine i)
    ∧ ∀ i ∈ is, t.senseLine i = (due i).foldl (fun l x => l.served x.2.action) (s.senseLine i) := by
  induction is generalizing s with
  | nil => subst eq; simp
  | cons j is ih =>
    obtain ⟨absent, distinct⟩ := List.nodup_cons.1 distinct
    rw [List.flatMap_cons, List.foldl_append, State.foldl_serve_sense (h j)] at eq
    obtain ⟨frame, others, served⟩ := ih distinct _ eq
    refine ⟨frame, fun i out => ?_, fun i mem => ?_⟩
    · obtain ⟨ne, out⟩ := not_or.1 (List.mem_cons.not.1 out)
      rw [others i out]
      simp [ne]
    · rcases List.mem_cons.1 mem with rfl | mem
      · rw [others i absent]; simp
      · have ne : i ≠ j := fun e => absent (e ▸ mem)
        rw [served i mem]
        simp [ne]

/-! ## MARKs (R126) -/

/-- A record made rests on the sessions and the cycle number, and so do the sessions after it. -/
theorem State.makeRecord_congr {s t : State} (sessions : t.sessions = s.sessions)
    (cycle : t.time.cycle = s.time.cycle) (a : Agent) (k : RecordKind) (count : Nat) :
    (t.makeRecord a k count).sessions = (s.makeRecord a k count).sessions := by
  unfold State.makeRecord State.notify State.notifyEach State.setSession State.session
  simp only [sessions, cycle]
  split <;> split <;> simp

theorem State.makeRecord_frame (s : State) (a : Agent) (k : RecordKind) (count : Nat) :
    s.makeRecord a k count = { s with sessions := (s.makeRecord a k count).sessions } := by
  unfold State.makeRecord
  dsimp only
  split <;> split <;> rfl

theorem State.serveMark_frame (s : State) (count : Nat) (x : Agent × Entry) :
    s.serveMark count x = { s with sessions := (s.serveMark count x).sessions } := by
  unfold State.serveMark
  split
  · exact s.makeRecord_frame _ _ _
  · rfl

/-- Serving MARKs changes sessions only. -/
theorem State.foldl_serveMark_frame (count : Nat) (due : List (Agent × Entry)) (s t : State)
    (eq : t = due.foldl (State.serveMark count) s) : t = { s with sessions := t.sessions } := by
  induction due generalizing s with
  | nil => subst eq; rfl
  | cons x due ih =>
    have rest := ih _ eq
    rw [s.serveMark_frame] at rest
    exact rest

/-- Every entry due on MARKER is served as a MARK at its count. -/
theorem State.foldl_serve_marker {count : Nat} {due : List (Agent × Entry)}
    (h : ∀ x ∈ due, x.2.target = .marker ∧ x.2.offset = count) (s : State) :
    due.foldl State.serve s = due.foldl (State.serveMark count) s := by
  refine List.foldl_rel (r := Eq) rfl fun x mem u v eq => ?_
  obtain ⟨target, offset⟩ := h x mem
  rw [← eq, u.serve_marker target, offset]

/-! ## A count is reached -/

/-- The state in which the due entries of a count are served: reaching count 0 sets origin reached (R2). -/
def State.atCount (s : State) (count : Nat) : State :=
  { s with time := { s.time with originReached := s.time.originReached || count == 0 } }

theorem State.reach_eq (s : State) (count : Nat) :
    s.reach count = (s.dueEntries count).foldl State.serve (s.atCount count) := by
  have same :
      (if count = 0 then { s with time := { s.time with originReached := true } } else s) = s.atCount count := by
    unfold State.atCount
    split
    · next h => simp [h]
    · next h => rw [beq_eq_false_iff_ne.2 h, Bool.or_false]
  have due : (s.atCount count).dueEntries count = s.dueEntries count := State.dueEntries_congr (fun _ => rfl) rfl count
  rw [← due, ← same]
  rfl

/-- What reaching a count does, part by part: the drive lines in ascending order, the sense lines, the MARKs. -/
structure State.Reached (s : State) (count : Nat) (t : State) : Prop where
  frame : t = { s with
    time := { s.time with originReached := s.time.originReached || count == 0 }
    drive := t.drive
    sense := t.sense
    sessions := t.sessions }
  lines : ∀ d, t.line d = DriveLine.serveAll s.settings d
    (blocked s.settings (if partner d < d then t.drive else s.drive) d) s.time.cycle (s.dueOn count (.drive d))
    (s.line d)
  senseLines : ∀ i, t.senseLine i =
    (s.dueOn count (.sense i)).foldl (fun l x => l.served x.2.action) (s.senseLine i)
  sessions : t.sessions = ((s.dueOn count .marker).foldl (State.serveMark count) s).sessions

theorem State.target_of_mem_dueOn {s : State} {count : Nat} {t : Target} {x : Agent × Entry}
    (h : x ∈ s.dueOn count t) : x.2.target = t ∧ x.2.offset = count := by
  obtain ⟨-, target, offset, -⟩ := (s.mem_dueOn count t x.1 x.2).1 h
  exact ⟨target, offset⟩

/-- MARKs served on states that agree in sessions and cycle number leave the same sessions. -/
theorem State.foldl_serveMark_sessions {s t : State} (sessions : t.sessions = s.sessions)
    (cycle : t.time.cycle = s.time.cycle) (count : Nat) (due : List (Agent × Entry)) :
    (due.foldl (State.serveMark count) t).sessions = (due.foldl (State.serveMark count) s).sessions := by
  refine (List.foldl_rel (r := fun u v : State => u.sessions = v.sessions ∧ u.time.cycle = v.time.cycle)
    ⟨sessions, cycle⟩ fun x _ u v h => ⟨?_, ?_⟩).1
  · unfold State.serveMark
    split
    · exact State.makeRecord_congr h.1 h.2 _ _ _
    · exact h.1
  · rw [u.serveMark_frame, v.serveMark_frame]
    exact h.2

theorem State.reached_reach (s : State) (count : Nat) : s.Reached count (s.reach count) := by
  rw [State.reach_eq, State.dueEntries, List.foldl_append, List.foldl_append]
  generalize eqd :
    ((List.finRange 16).flatMap fun d => s.dueOn count (.drive d)).foldl State.serve (s.atCount count) = td
  generalize eqs : ((List.finRange 8).flatMap fun i => s.dueOn count (.sense i)).foldl State.serve td = ts
  obtain ⟨framed, -, lines⟩ := State.foldl_serve_drives (due := fun d => s.dueOn count (.drive d))
    (fun d x hx => (State.target_of_mem_dueOn hx).1) (List.pairwise_lt_finRange 16) _ _ eqd.symm
  obtain ⟨frames, -, senses⟩ := State.foldl_serve_senses (due := fun i => s.dueOn count (.sense i))
    (fun i x hx => (State.target_of_mem_dueOn hx).1) (List.nodup_finRange 8) _ _ eqs.symm
  rw [State.foldl_serve_marker fun x hx => State.target_of_mem_dueOn hx]
  generalize eqm : (s.dueOn count .marker).foldl (State.serveMark count) ts = tm
  have framem := State.foldl_serveMark_frame count _ _ _ eqm.symm
  have drive : tm.drive = td.drive := by rw [framem, frames]
  have sense : tm.sense = ts.sense := by rw [framem]
  have sensed : td.sense = s.sense := by rw [framed]; rfl
  have sessions : ts.sessions = s.sessions := by rw [frames, framed]; rfl
  have cycle : ts.time.cycle = s.time.cycle := by rw [frames, framed]; rfl
  refine ⟨?_, fun d => ?_, fun i => ?_, ?_⟩
  · rw [frames, framed] at framem
    rw [drive, sense]
    exact framem
  · have line : tm.line d = td.line d := by rw [State.line, drive]; rfl
    rw [line, drive]
    exact lines d (List.mem_finRange d)
  · have line : tm.senseLine i = ts.senseLine i := by rw [State.senseLine, sense]; rfl
    have before : td.senseLine i = s.senseLine i := by rw [State.senseLine, sensed]; rfl
    rw [line, senses i (List.mem_finRange i), before]
  · rw [← eqm]
    exact State.foldl_serveMark_sessions sessions cycle count _

/-- Beside origin reached, reaching a count changes lines and queues only. -/
theorem State.served_reach (s : State) (count : Nat) : (s.atCount count).Served (s.reach count) := by
  rw [State.reach_eq]
  exact .foldl State.served_serve _ _

/-- Reaching a count serves no session that has no active entry. -/
theorem State.reach_session_of_inactive (s : State) (count : Nat) {a : Agent} (h : (s.session a).active = []) :
    (s.reach count).session a = s.session a := by
  have other : ∀ x ∈ s.dueOn count .marker, x.1 ≠ a := by
    rintro ⟨b, e⟩ mem rfl
    simpa [h] using ((s.mem_dueOn count .marker b e).1 mem).1
  have kept : ∀ due : List (Agent × Entry), (∀ x ∈ due, x.1 ≠ a) → ∀ u : State,
      (due.foldl (State.serveMark count) u).session a = u.session a := by
    intro due
    induction due with
    | nil => intro _ u; rfl
    | cons x due ih =>
      intro ne u
      rw [List.foldl_cons, ih fun y hy => ne y (by simp [hy])]
      unfold State.serveMark
      split
      · exact u.makeRecord_session_of_ne _ _ (ne x (by simp)).symm
      · rfl
  have sessions := (s.reached_reach count).sessions
  rw [← kept _ other s, State.session, sessions]
  rfl

/-- Beginning a cycle is what R3 says. -/
theorem State.cycleBegun_beginCycle (s : State) : CycleBegun s s.beginCycle := ⟨s.newCycle, rfl, rfl⟩

/-! ## The statement -/

theorem partner_lt_iff (d : Drive) : partner d < d ↔ d.val % 2 ≠ 0 := by
  revert d
  decide

/-- Settles O52: the due entries are a filter of the active parts, and the fold over them is cut into its drive lines,
sense lines and MARKs (`State.reached_reach`). -/
theorem countsReachedServeTheirDueEntries : Obligations.CountsReachedServeTheirDueEntries := by
  refine ⟨fun s count t a e => ?_, State.dueOn_sorted, ?_, State.cycleBegun_beginCycle⟩
  · rw [State.mem_dueOn, Entry.matches_iff]
  · rintro s t count rfl
    obtain ⟨frame, lines, senseLines, sessions⟩ := s.reached_reach count
    refine ⟨fun d held eq => ?_, fun i => senseLines i, ?_, frame⟩
    · have same : held =
          blocked s.settings (if partner d < d then (s.reach count).drive else s.drive) d := by
        rw [eq]
        by_cases even : d.val % 2 = 0
        · rw [if_pos even, if_neg (by simp [partner_lt_iff, even])]
        · rw [if_neg even, if_pos ((partner_lt_iff d).2 even)]
      rw [same]
      exact lines d
    · rw [sessions]
      refine congrArg State.sessions (List.foldl_rel (r := Eq) rfl fun x _ u v eq => ?_)
      subst eq
      unfold State.serveMark
      cases x.2.action <;> rfl

end Sys2Proof.Machine
end

section
/-! SUPPORT. The application of a ballot: the settings, the paths, the budget and the run state (R6, R10, R11, R16,
R149), and an immediate application (R148, R150). -/

namespace Sys2Proof.Machine

variable (s : State)

/-! ## Taking a run state (R11) -/

/-- A running state, and the state the time base is in, are taken with no other effect. -/
theorem State.takeRun_of_kept {run : RunState} (h : run = s.time.run ∨ run.isRunning = true) :
    s.takeRun run = { s with time := { s.time with run := run } } := by
  unfold State.takeRun
  rcases h with rfl | running
  · split
    · rfl
    · rw [if_pos rfl]
  · rw [if_pos running]

/-- STOPPED or ARMED, taken from another run state, has the effects of R11. -/
theorem State.takeRun_of_entered {run : RunState} (ne : run ≠ s.time.run) (idle : run.isRunning = false) :
    s.takeRun run = s.enterIdle run := by
  simp [State.takeRun, ne, idle]

/-- Either of the two ways in which a run state is taken. -/
theorem State.takeRun_cases (run : RunState) :
    ((run = s.time.run ∨ run.isRunning = true) ∧ s.takeRun run = { s with time := { s.time with run := run } })
    ∨ (run ≠ s.time.run ∧ run.isRunning = false ∧ s.takeRun run = s.enterIdle run) := by
  by_cases same : run = s.time.run
  · exact .inl ⟨.inl same, s.takeRun_of_kept (.inl same)⟩
  · cases running : run.isRunning
    · exact .inr ⟨same, rfl, s.takeRun_of_entered same running⟩
    · exact .inl ⟨.inr rfl, s.takeRun_of_kept (.inr running)⟩

/-- Taking a run state concerns the time base, the drive lines and a count advance that has arisen. -/
theorem State.takeRun_frame (run : RunState) : s.takeRun run = { s with
    time := { s.time with
      run := run
      count := (s.takeRun run).time.count
      phase := (s.takeRun run).time.phase
      originReached := (s.takeRun run).time.originReached }
    drive := (s.takeRun run).drive
    arisen := (s.takeRun run).arisen } := by
  rcases s.takeRun_cases run with ⟨-, eq⟩ | ⟨-, -, eq⟩
  · rw [eq]
  · rw [eq]
    rfl

/-! ## Steps 1 and 2 of R149 -/

/-- The record updated and the paths reloaded (R6, R149). -/
def State.withSettings (p : Proposal) : State :=
  { s.reloadPaths s.settings (s.settings.updated p) with settings := s.settings.updated p }

/-- The run state an application leads to (R16). -/
def State.runApplied (p : Proposal) : RunState :=
  s.time.run.afterSettings p.run s.settings.mode (s.settings.updated p).mode (s.withSettings p).gateActive

/-- The budget an application leaves (R10). -/
def State.budgetApplied (p : Proposal) : Nat :=
  if p.loadsBudget s.time.run (s.runApplied p) then (s.settings.updated p).budget else s.time.budgetRemaining

/-- The state in which an application takes its run state. -/
def State.withBudget (p : Proposal) : State :=
  { s.withSettings p with time := { (s.withSettings p).time with budgetRemaining := s.budgetApplied p } }

theorem State.applySettings_eq (p : Proposal) : s.applySettings p = (s.withBudget p).takeRun (s.runApplied p) := by
  have loaded : (if p.loadsBudget s.time.run (s.runApplied p) then (s.withSettings p).loadBudget else s.withSettings p)
      = s.withBudget p := by
    unfold State.withBudget State.budgetApplied
    split <;> rfl
  rw [← loaded]
  rfl

/-- What an application changes: the settings, the time base, the drive lines, and events that have arisen. -/
theorem State.applySettings_frame (p : Proposal) : s.applySettings p = { s with
    settings := s.settings.updated p
    time := { s.time with
      run := s.runApplied p
      budgetRemaining := s.budgetApplied p
      trigger := (s.withSettings p).time.trigger
      gate := (s.withSettings p).time.gate
      count := (s.applySettings p).time.count
      phase := (s.applySettings p).time.phase
      originReached := (s.applySettings p).time.originReached }
    drive := (s.applySettings p).drive
    arisen := (s.applySettings p).arisen } := by
  simp only [State.applySettings_eq]
  exact State.takeRun_frame _ _

/-- The count, the phase, origin reached and the lines stay, or are those of a time base that enters STOPPED or
ARMED. -/
theorem State.applySettings_cases (p : Proposal) :
    ((s.runApplied p = s.time.run ∨ (s.runApplied p).isRunning = true)
      ∧ (s.applySettings p).time.count = s.time.count ∧ (s.applySettings p).time.phase = s.time.phase
      ∧ (s.applySettings p).time.originReached = s.time.originReached ∧ (s.applySettings p).drive = s.drive)
    ∨ (s.runApplied p ≠ s.time.run ∧ (s.runApplied p).isRunning = false
      ∧ (s.applySettings p).time.count = 0 ∧ (s.applySettings p).time.phase = 0
      ∧ (s.applySettings p).time.originReached = false
      ∧ (s.applySettings p).drive = Bank.build fun d => (s.line d).stop) := by
  rw [State.applySettings_eq]
  rcases (s.withBudget p).takeRun_cases (s.runApplied p) with ⟨kept, eq⟩ | ⟨ne, idle, eq⟩ <;> rw [eq]
  · exact .inl ⟨kept, rfl, rfl, rfl, rfl⟩
  · exact .inr ⟨ne, idle, rfl, rfl, rfl, rfl⟩

@[simp] theorem State.applySettings_settings (p : Proposal) :
    (s.applySettings p).settings = s.settings.updated p := by rw [State.applySettings_frame]

@[simp] theorem State.applySettings_run (p : Proposal) : (s.applySettings p).time.run = s.runApplied p := by
  rw [State.applySettings_frame]

@[simp] theorem State.applySettings_ballot (p : Proposal) : (s.applySettings p).ballot = s.ballot := by
  rw [State.applySettings_frame]

@[simp] theorem State.applySettings_cycle (p : Proposal) : (s.applySettings p).time.cycle = s.time.cycle := by
  rw [State.applySettings_frame]

@[simp] theorem State.applySettings_sessions (p : Proposal) : (s.applySettings p).sessions = s.sessions := by
  rw [State.applySettings_frame]

@[simp] theorem State.applySettings_driveOwner (p : Proposal) : (s.applySettings p).driveOwner = s.driveOwner := by
  rw [State.applySettings_frame]

@[simp] theorem State.applySettings_senseOwner (p : Proposal) : (s.applySettings p).senseOwner = s.senseOwner := by
  rw [State.applySettings_frame]

@[simp] theorem State.applySettings_gate (p : Proposal) :
    (s.applySettings p).time.gate = (s.withSettings p).time.gate := by rw [State.applySettings_frame]

theorem State.gateActive_iff : s.gateActive = true ↔ s.time.gate.level = .high := by simp [State.gateActive]

/-! ## The tables of R10 and R16 -/

theorem Proposal.loadsBudget_iff (p : Proposal) (before after : RunState) : p.loadsBudget before after = true ↔
    p.run = some .run ∨ p.budget ≠ none ∨ (before.isRunning = false ∧ after.isRunning = true) := by
  simp [Proposal.loadsBudget, Option.isSome_iff_ne_none, or_assoc]

/-- A start leads to the run state of the mode (R16). -/
theorem State.runApplied_of_start {p : Proposal}
    (start : (s.time.run = .stopped ∧ p.run = some .run) ∨ (s.time.run = .armed ∧ p.run ≠ some .stop)) :
    s.runApplied p = (s.settings.updated p).mode.start (s.withSettings p).gateActive := by
  unfold State.runApplied
  rcases start with ⟨run, field⟩ | ⟨run, field⟩ <;> rw [run] <;> simp [RunState.afterSettings, field]

/-- A running time base goes on, stops, or is armed by a change to TRIGGERED (R16). -/
theorem State.runApplied_of_running {p : Proposal} (run : s.time.run = .running) :
    s.runApplied p = if p.run = some .stop then .stopped
      else if (s.settings.updated p).mode = .triggered ∧ s.settings.mode ≠ .triggered then .armed else .running := by
  unfold State.runApplied
  rw [run]
  rfl

/-- A path reloaded from its source (R6). -/
theorem State.at_sourceLevel (source : Option Sense) : Path.at_ (s.sourceLevel source) =
    match source with
    | none => ⟨.low, 0⟩
    | some i => ⟨(s.senseLine i).sample, 0⟩ := by
  cases source <;> rfl

theorem Settings.reloadsTrigger_iff (old new : Settings) : old.reloadsTrigger new = true ↔
    new.triggerSource ≠ old.triggerSource ∨ new.timingFilter ≠ old.timingFilter := by
  simp [Settings.reloadsTrigger, ne_comm]

theorem Settings.reloadsGate_iff (old new : Settings) : old.reloadsGate new = true ↔
    new.gateSource ≠ old.gateSource ∨ new.timingFilter ≠ old.timingFilter := by
  simp [Settings.reloadsGate, ne_comm]

theorem State.withSettings_trigger (p : Proposal) : (s.withSettings p).time.trigger =
    if s.settings.reloadsTrigger (s.settings.updated p) then .at_ (s.sourceLevel (s.settings.updated p).triggerSource)
    else s.time.trigger := rfl

theorem State.withSettings_gate (p : Proposal) : (s.withSettings p).time.gate =
    if s.settings.reloadsGate (s.settings.updated p) then .at_ (s.sourceLevel (s.settings.updated p).gateSource)
    else s.time.gate := rfl

theorem DriveLine.stop_eq_stopped (l : DriveLine) : l.stop = l.stopped := by
  unfold DriveLine.stop DriveLine.stopped
  by_cases free : l.forcing = .free <;> simp [free]

/-- Settings applied never assert a line (R11). -/
theorem State.applySettings_deasserted {p : Proposal} {d : Drive} (h : (s.line d).asserted = false) :
    ((s.applySettings p).line d).asserted = false := by
  rcases s.applySettings_cases p with ⟨-, -, -, -, drive⟩ | ⟨-, -, -, -, -, drive⟩ <;>
    rw [State.line, drive]
  · exact h
  · simp [DriveLine.stop, h]

/-- Settles O48: the record, the run state, the budget, the paths and the lines of `State.applySettings_frame`, each by
its table. -/
theorem appliedSettingsFollowTheTables : Obligations.AppliedSettingsFollowTheTables := by
  rintro p s t rfl
  have frame := s.applySettings_frame p
  have settings := s.applySettings_settings p
  have run := s.applySettings_run p
  have mode : (s.applySettings p).settings.mode = (s.settings.updated p).mode := by rw [settings]
  refine ⟨?record, ⟨?_, ?_, fun start => ⟨?_, ?_, ?_⟩, ?_, ?_⟩, ?budget, ?trigger, ?gate, fun ne idle => ?stop,
    fun kept => ?lines, fun d l low present => ?pin, ?rest⟩
  case record =>
    rw [settings]
    refine ⟨rfl, rfl, rfl, rfl, rfl, rfl, rfl, fun a => ?_, fun k => ?_, fun d => ?_⟩ <;> exact Bank.read_build _ _
  · intro stopped field
    rw [run, State.runApplied, stopped]
    simp [RunState.afterSettings, field]
  · intro armed field
    rw [run, State.runApplied, armed]
    simp [RunState.afterSettings, field]
  · intro triggered
    rw [run, s.runApplied_of_start start, ← mode, triggered]
    rfl
  · rintro (free | restart)
    · rw [run, s.runApplied_of_start start, ← mode, free]
      rfl
    · rw [run, s.runApplied_of_start start, ← mode, restart]
      rfl
  · intro gated
    rw [run, s.runApplied_of_start start, ← mode, gated, State.applySettings_gate]
    simp only [Mode.start, State.gateActive_iff]
  · intro running field
    rw [run, s.runApplied_of_running running, if_pos field]
  · intro running field
    rw [run, s.runApplied_of_running running, if_neg field, mode]
  case budget =>
    rw [frame]
    show s.budgetApplied p = _
    simp only [State.budgetApplied, Proposal.loadsBudget_iff]
  case trigger =>
    rw [frame]
    show (s.withSettings p).time.trigger = _
    rw [State.withSettings_trigger]
    exact if_congr (Settings.reloadsTrigger_iff _ _) (s.at_sourceLevel _) rfl
  case gate =>
    rw [frame]
    show (s.withSettings p).time.gate = _
    rw [State.withSettings_gate]
    exact if_congr (Settings.reloadsGate_iff _ _) (s.at_sourceLevel _) rfl
  case stop =>
    rw [run] at ne idle
    rcases s.applySettings_cases p with ⟨kept, -⟩ | ⟨-, -, count, phase, origin, drive⟩
    · rcases kept with same | running
      · exact absurd same ne
      · rw [running] at idle
        cases idle
    · refine ⟨count, phase, origin, fun d => ?_⟩
      rw [State.line, drive, Bank.read_build, DriveLine.stop_eq_stopped]
      rfl
  case lines =>
    rw [run] at kept
    rcases s.applySettings_cases p with ⟨-, -, -, -, drive⟩ | ⟨ne, idle, -⟩
    · exact drive
    · rcases kept with same | running
      · exact absurd same ne
      · rw [running] at idle
        cases idle
  case pin =>
    unfold State.pin
    rw [s.applySettings_deasserted low, settings]
    simp [Settings.updated, present]
  case rest =>
    rw [frame]
    exact ⟨rfl, rfl, rfl, rfl, rfl, rfl, rfl, rfl, rfl⟩

/-! ## An immediate application (R148, R150) -/

/-- A cycle that begins keeps the settings, the ballot and the run state. -/
theorem State.beginCycle_cases :
    (s.time.run = .running ∧ s.beginCycle = s.newCycle.reach 0)
    ∨ (s.time.run ≠ .running ∧ s.beginCycle = s.newCycle) := by
  by_cases run : s.time.run = .running
  · exact .inl ⟨run, by rw [State.beginCycle, if_pos run]⟩
  · exact .inr ⟨run, by rw [State.beginCycle, if_neg run]⟩

/-- The time base at the beginning of a cycle: origin is reached at once in RUNNING (R3). -/
theorem State.beginCycle_time : s.beginCycle.time = { s.time with
    cycle := s.time.cycle + 1, count := 0, phase := 0, originReached := s.time.run == .running } := by
  rcases s.beginCycle_cases with ⟨run, eq⟩ | ⟨run, eq⟩
  · rw [eq, (State.served_reach _ 0).time]
    simp [State.atCount, State.newCycle, run]
  · rw [eq]
    simp [State.newCycle, beq_eq_false_iff_ne.2 run]

/-- Beside the time base and a count advance that has arisen, a cycle that begins only serves entries. -/
theorem State.served_beginCycle :
    ({ s with time := s.beginCycle.time, arisen := s.arisen.filter fun e => e != .countAdvance } : State).Served
      s.beginCycle := by
  rcases s.beginCycle_cases with ⟨run, eq⟩ | ⟨run, eq⟩
  · have served := State.served_reach s.newCycle 0
    rw [eq, served.time]
    exact served
  · rw [eq]
    exact .refl _

@[simp] theorem State.beginCycle_settings : s.beginCycle.settings = s.settings := s.served_beginCycle.settings

@[simp] theorem State.beginCycle_ballot : s.beginCycle.ballot = s.ballot := s.served_beginCycle.ballot

/-- Settles O49: `State.applyIfIdle`, operation by operation. -/
theorem immediateApplicationStartsAndTells : Obligations.ImmediateApplicationStartsAndTells := by
  rintro s t rfl
  refine ⟨fun none => ?_, fun running => ?_, fun b p passed idle => ?_⟩
  · unfold State.applyIfIdle
    split
    · next b p passed => exact absurd passed (none b p)
    · rfl
    · rfl
  · unfold State.applyIfIdle
    split
    · rw [if_pos running]
    · rfl
    · rfl
  · have begun : ∃ v, v = (s.applySettings p).beginIfStarted s.time.run
        ∧ ((s.applySettings p).time.run.isRunning = false → v = s.applySettings p)
        ∧ ((s.applySettings p).time.run.isRunning = true → v = (s.applySettings p).beginCycle) :=
      ⟨_, rfl, fun h => by rw [State.beginIfStarted, h, Bool.and_false]; rfl,
        fun h => by rw [State.beginIfStarted, h, idle]; rfl⟩
    obtain ⟨v, eq, stays, starts⟩ := begun
    have run : v.time.run = (s.applySettings p).time.run ∧ v.settings = s.settings.updated p ∧ v.ballot = s.ballot := by
      cases running : (s.applySettings p).time.run.isRunning
      · rw [stays running]
        simp
      · rw [starts running, State.beginCycle_time]
        simp
    obtain ⟨run, settings, ballot⟩ := run
    have result : s.applyIfIdle = ((v.emptySlot).notifyIfChanged s.time.run).notifySettings
        ((v.emptySlot).notifyIfChanged s.time.run).time.cycle .immediate := by
      simp [State.applyIfIdle, passed, idle, eq]
    have told : (v.emptySlot).notifyIfChanged s.time.run =
        if (s.applySettings p).time.run.runClass = s.time.run.runClass then v.emptySlot
        else v.emptySlot.notifyAll v.emptySlot.time.cycle
          (.timebaseChanged v.emptySlot.time.run v.emptySlot.settings.mode .settings
            v.emptySlot.time.budgetRemaining) := by
      rw [← run]
      unfold State.notifyIfChanged
      simp only [eq_comm (a := s.time.run.runClass)]
      rfl
    refine ⟨s.applySettings p, v, v.emptySlot, rfl, stays, fun running => ?_, ?_, ?_, ?_⟩
    · rw [starts running]
      exact State.cycleBegun_beginCycle _
    · rw [State.emptySlot, ballot]
    · rw [result, told]
      have number : s.ballot.number = v.ballot.number := by rw [ballot]
      rw [number]
      split <;> rfl
    · rw [result, told]
      split <;> exact settings

end Sys2Proof.Machine
end

section
/-! SUPPORT. The countdown of a count advance on one line (R106, R107), and a count advance inside a cycle (R1, R2). -/

namespace Sys2Proof.Machine

/-- What every operation of a fold keeps, the fold keeps. -/
theorem State.foldl_keeps {α β : Type} {f : State → α → State} {g : State → β} (h : ∀ s x, g (f s x) = g s)
    (xs : List α) (s : State) : g (xs.foldl f s) = g s := by
  induction xs generalizing s with
  | nil => rfl
  | cons x xs ih => rw [List.foldl_cons, ih, h]

/-- The row of an event takes the event while the part is live. -/
theorem State.exec_row {s : State} (live : s.live = true) (e : Event) : exec e.row s = .next (s.takeEvent e) := by
  cases e <;> simp only [exec, Event.row, execCountAdvance, execTriggerEdge, execGateChange, execCaptureEdge,
    execLeaseClockAdvance, execLeaseExpiry, execDeadlineExpiry, live, if_true]

section

variable (s : State)

/-! ## The countdown -/

@[simp] theorem State.notifyResolved_drive (n : Cycle) (d : Drive) (x : Deferred) (taken : Bool) :
    (s.notifyResolved n d x taken).drive = s.drive := by
  unfold State.notifyResolved
  split <;> rfl

@[simp] theorem State.notifyResolved_sense (n : Cycle) (d : Drive) (x : Deferred) (taken : Bool) :
    (s.notifyResolved n d x taken).sense = s.sense := by
  unfold State.notifyResolved
  split <;> rfl

/-- A line without a deferred assert is not concerned where deferred asserts are taken (R107). -/
theorem State.takeDeferral_line_of_none (n : Cycle) {d : Drive} (h : (s.line d).deferred = none) (e : Drive) :
    (s.takeDeferral n e).line d = s.line d := by
  unfold State.takeDeferral
  split
  · rfl
  · next x deferred =>
    have ne : d ≠ e := fun same => by simp [← same, h] at deferred
    split
    · rfl
    · rw [State.line, State.notifyResolved_drive]
      exact (s.line_setLine e d _).trans (if_neg ne)

@[simp] theorem State.countdown_sense (n : Cycle) : (s.countdown n).sense = s.sense := by
  unfold State.countdown
  rw [State.foldl_keeps (g := State.sense)]
  intro t d
  unfold State.takeDeferral
  split
  · rfl
  · split <;> simp

@[simp] theorem DriveLine.guardedDeassert_deferred (st : Settings) (d : Drive) (l : DriveLine) :
    (l.guardedDeassert st d).deferred = l.deferred := by
  unfold DriveLine.guardedDeassert
  split <;> rfl

@[simp] theorem DriveLine.lowerPulse_deferred (st : Settings) (d : Drive) (l : DriveLine) :
    (l.lowerPulse st d).deferred = l.deferred := by
  unfold DriveLine.lowerPulse
  split
  · rfl
  · split <;> simp [DriveLine.endPulse]

/-- The countdown on a line that has no deferred assert: its guard and its pulse end are lowered (R106). -/
theorem State.countdown_line_of_none (n : Cycle) {d : Drive} (h : (s.line d).deferred = none) :
    (s.countdown n).line d =
      ({ s.line d with guardRemaining := (s.line d).guardRemaining - 1 } : DriveLine).lowerPulse s.settings d := by
  have fold : ∀ (ds : List Drive) (t : State), (t.line d).deferred = none →
      (ds.foldl (State.takeDeferral n) t).line d = t.line d := by
    intro ds
    induction ds with
    | nil => intro t _; rfl
    | cons e ds ih =>
      intro t none
      have same := t.takeDeferral_line_of_none n none e
      rw [List.foldl_cons, ih _ (by rw [same]; exact none), same]
  have lowered : (lowerPulses s.settings (lowerGuards s.drive)).read d =
      ({ s.line d with guardRemaining := (s.line d).guardRemaining - 1 } : DriveLine).lowerPulse s.settings d := by
    simp [lowerPulses, lowerGuards, State.line]
  rw [State.countdown, fold _ _ ?_]
  · exact lowered
  · rw [State.line, lowered]
    simpa using h

/-- Steps 1 and 2 of R106 on one line, by its pulse end. -/
theorem DriveLine.lowered_eq (st : Settings) (d : Drive) (l : DriveLine) :
    ({ l with guardRemaining := l.guardRemaining - 1 } : DriveLine).lowerPulse st d =
      match l.pulseEnd with
      | none => { l with guardRemaining := l.guardRemaining - 1 }
      | some k =>
        if 2 ≤ k then { l with pulseEnd := some (k - 1), guardRemaining := l.guardRemaining - 1 }
        else
          { l with
            asserted := false
            pulseEnd := none
            guardRemaining := if l.asserted && interlocked st d then guardOf st d else l.guardRemaining - 1 } := by
  obtain ⟨asserted, forcing, pulseEnd, deferred, guard⟩ := l
  cases pulseEnd with
  | none => rfl
  | some k =>
    by_cases last : k ≤ 1
    · have few : ¬ 2 ≤ k := by omega
      cases asserted <;> simp [DriveLine.lowerPulse, DriveLine.endPulse, DriveLine.guardedDeassert, last, few]
    · have many : 2 ≤ k := by omega
      simp [DriveLine.lowerPulse, last, many]

/-! ## A count advance (R1) -/

/-- The state with another time base. -/
def State.setTime (t : TimeBase) : State := { s with time := t }

theorem State.setTime_eq (t : TimeBase) : s.setTime t = { s with time := t } := rfl

@[simp] theorem State.setTime_settings (t : TimeBase) : (s.setTime t).settings = s.settings := rfl

@[simp] theorem State.setTime_time (t : TimeBase) : (s.setTime t).time = t := rfl

@[simp] theorem State.setTime_ballot (t : TimeBase) : (s.setTime t).ballot = s.ballot := rfl

@[simp] theorem State.setTime_sense (t : TimeBase) : (s.setTime t).sense = s.sense := rfl

@[simp] theorem State.setTime_line (t : TimeBase) (d : Drive) : (s.setTime t).line d = s.line d := rfl

@[simp] theorem State.setTime_session (t : TimeBase) (a : Agent) : (s.setTime t).session a = s.session a := rfl

theorem State.Served.setTime {s u : State} (h : s.Served u) (t : TimeBase) : (s.setTime t).Served (u.setTime t) := by
  refine ⟨?_, h.records⟩
  rw [h.frame]
  rfl

/-- The time base whose count advance is being taken (log entry 7). -/
def TimeBase.unphased (t : TimeBase) : TimeBase := { t with phase := 0 }

/-- The time base after a count advance inside a cycle. -/
def TimeBase.advanced (t : TimeBase) : TimeBase := { t with count := t.count + 1, phase := 0 }

/-- The state at another count of its cycle. -/
def State.withCount (k : Nat) : State := { s with time := { s.time with count := k } }

theorem State.Served.withCount {s u : State} (h : s.Served u) (k : Nat) : (s.withCount k).Served (u.withCount k) := by
  refine ⟨?_, h.records⟩
  rw [h.frame]
  rfl

@[simp] theorem State.withCount_sense (k : Nat) : (s.withCount k).sense = s.sense := rfl

@[simp] theorem State.withCount_line (k : Nat) (d : Drive) : (s.withCount k).line d = s.line d := rfl

/-- The state in which a count advance inside a cycle reaches its count: counted down, with the count risen. -/
def State.counted : State :=
  ((s.setTime s.time.unphased).countdown s.time.cycle).withCount (s.time.count + 1)

theorem State.advanceCount_eq : s.advanceCount =
    if s.time.run = .running then
      if s.time.count + 1 < s.settings.period then s.counted.reach (s.time.count + 1)
      else (s.setTime s.time.unphased).boundary true
    else s := by
  unfold State.advanceCount State.counted State.withCount State.setTime TimeBase.unphased
  dsimp only

/-- A time base that does not run takes no count advance. -/
theorem State.advanceCount_idle (h : s.time.run ≠ .running) : s.advanceCount = s := by
  rw [State.advanceCount_eq, if_neg h]

theorem State.advanceCount_inside (running : s.time.run = .running) (inside : s.time.count + 1 < s.settings.period) :
    s.advanceCount = s.counted.reach (s.time.count + 1) := by
  rw [State.advanceCount_eq, if_pos running, if_pos inside]

theorem State.advanceCount_last (running : s.time.run = .running) (last : s.settings.period ≤ s.time.count + 1) :
    s.advanceCount = (s.setTime s.time.unphased).boundary true := by
  rw [State.advanceCount_eq, if_pos running, if_neg (not_lt.2 last)]

/-- Beside the time base, a count advance inside a cycle changes lines and queues only. -/
theorem State.served_counted : (s.setTime s.time.advanced).Served s.counted :=
  (State.served_countdown (s.setTime s.time.unphased) s.time.cycle).withCount (s.time.count + 1)

/-- The count reached by a count advance is above 0, so origin reached stays. -/
theorem State.advanceCount_served (running : s.time.run = .running)
    (inside : s.time.count + 1 < s.settings.period) : (s.setTime s.time.advanced).Served s.advanceCount := by
  have same : s.counted.atCount (s.time.count + 1) = s.counted := by simp [State.atCount]
  have reached := s.counted.served_reach (s.time.count + 1)
  rw [same] at reached
  rw [s.advanceCount_inside running inside]
  exact s.served_counted.trans reached

end

/-- A line whose one due entry is served while the line is of no interlocked pair (R99). -/
theorem blocked_of_free {st : Settings} {d : Drive} (h : interlocked st d = false) (lines : Bank DriveLine 16) :
    blocked st lines d = false := by
  simp [blocked, h]

/-- An event that is taken stands no longer. -/
def State.taken (s : State) (e : Event) : State := { s with arisen := s.arisen.filter fun f => f != e }

@[simp] theorem State.taken_settings (s : State) (e : Event) : (s.taken e).settings = s.settings := rfl

@[simp] theorem State.taken_time (s : State) (e : Event) : (s.taken e).time = s.time := rfl

@[simp] theorem State.taken_ballot (s : State) (e : Event) : (s.taken e).ballot = s.ballot := rfl

@[simp] theorem State.taken_line (s : State) (e : Event) (d : Drive) : (s.taken e).line d = s.line d := rfl

@[simp] theorem State.taken_senseLine (s : State) (e : Event) (i : Sense) : (s.taken e).senseLine i = s.senseLine i :=
  rfl

@[simp] theorem State.taken_session (s : State) (e : Event) (a : Agent) : (s.taken e).session a = s.session a := rfl

@[simp] theorem State.taken_dueOn (s : State) (e : Event) (count : Nat) (t : Target) :
    (s.taken e).dueOn count t = s.dueOn count t := rfl

theorem State.takeEvent_eq (s : State) (e : Event) : s.takeEvent e = (s.taken e).perform e := rfl

theorem State.exec_countAdvance {s : State} (live : s.live = true) :
    exec .countAdvance s = .next (s.taken .countAdvance).advanceCount := by
  rw [show Instr.countAdvance = Event.countAdvance.row from rfl, State.exec_row live, State.takeEvent_eq]
  unfold State.perform
  dsimp only

/-- What a count advance inside a cycle leaves of a line without a deferred assert, before its due entries. -/
theorem State.counted_line_of_none (s : State) {d : Drive} (h : (s.line d).deferred = none) : s.counted.line d =
    ({ s.line d with guardRemaining := (s.line d).guardRemaining - 1 } : DriveLine).lowerPulse s.settings d := by
  rw [State.counted, State.withCount_line, State.countdown_line_of_none _ _ (by simpa using h)]
  simp

@[simp] theorem State.counted_sense (s : State) : s.counted.sense = s.sense := by simp [State.counted]

@[simp] theorem State.counted_settings (s : State) : s.counted.settings = s.settings := s.served_counted.settings

@[simp] theorem State.counted_time (s : State) : s.counted.time = s.time.advanced := s.served_counted.time

/-- The entries due after a countdown are those due before it. -/
theorem State.counted_dueOn (s : State) (count : Nat) (target : Target) :
    s.counted.dueOn count target = s.dueOn count target :=
  State.dueOn_congr (fun a => (s.served_counted.records a).active)
    (congrArg TimeBase.cycle s.counted_time) _ _

/-- A line without a deferred assert takes the countdown, and then its due entries (R101, R106). Only a line of an
interlocked pair may be blocked while it takes them. -/
theorem State.advanceCount_line {s : State} (running : s.time.run = .running)
    (inside : s.time.count + 1 < s.settings.period) {d : Drive} (h : (s.line d).deferred = none) :
    ∃ held, (interlocked s.settings d = false → held = false)
      ∧ s.advanceCount.line d = DriveLine.serveAll s.settings d held s.time.cycle
        (s.dueOn (s.time.count + 1) (.drive d))
        (({ s.line d with guardRemaining := (s.line d).guardRemaining - 1 } : DriveLine).lowerPulse s.settings d) := by
  have line := (s.counted.reached_reach (s.time.count + 1)).lines d
  rw [State.counted_dueOn, s.counted_line_of_none h, State.counted_settings, State.counted_time] at line
  rw [s.advanceCount_inside running inside]
  exact ⟨_, fun free => blocked_of_free free _, line⟩

/-- A sense line takes its due entries (R122). -/
theorem State.advanceCount_senseLine {s : State} (running : s.time.run = .running)
    (inside : s.time.count + 1 < s.settings.period) (i : Sense) : s.advanceCount.senseLine i =
      (s.dueOn (s.time.count + 1) (.sense i)).foldl (fun l x => l.served x.2.action) (s.senseLine i) := by
  have line := (s.counted.reached_reach (s.time.count + 1)).senseLines i
  have before : s.counted.senseLine i = s.senseLine i := by rw [State.senseLine, State.counted_sense, State.senseLine]
  rw [State.counted_dueOn, before] at line
  rw [s.advanceCount_inside running inside]
  exact line

/-- The state in which the count is reached, as the countdown leaves it. -/
theorem State.counted_eq (s : State) : s.counted =
    { (s.setTime s.time.unphased).countdown s.time.cycle with
      time := { s.time with count := s.time.count + 1, phase := 0 } } := by
  have time := (State.served_countdown (s.setTime s.time.unphased) s.time.cycle).time
  rw [State.counted, State.withCount, time]
  rfl

/-- Settles O53: a count advance inside a cycle is the countdown, then the count reached. -/
theorem countAdvanceCountsAndServes : Obligations.CountAdvanceCountsAndServes := by
  intro s live
  rw [State.exec_countAdvance live]
  refine ⟨fun idle => congrArg _ (State.advanceCount_idle _ idle), fun running inside => ⟨_, rfl, ?_⟩⟩
  have served := (s.taken .countAdvance).advanceCount_served running inside
  have reach := (s.taken .countAdvance).advanceCount_inside running inside
  have lines := fun d (none : (s.line d).deferred = none) =>
    State.advanceCount_line (s := s.taken .countAdvance) running inside (d := d) none
  have senses := State.advanceCount_senseLine (s := s.taken .countAdvance) running inside
  simp only [State.taken_settings, State.taken_time, State.taken_line, State.taken_senseLine, State.taken_dueOn]
    at reach lines senses
  generalize (s.taken .countAdvance).advanceCount = t at *
  refine ⟨fun u eq => ?_, served.time, fun d c none lowered => ?_, fun i => ?_, served.records, served.settings,
    served.ballot, served.driveOwner, served.senseOwner, served.ports, served.pending⟩
  · rw [reach, State.counted_eq, eq]
    rfl
  · obtain ⟨held, free, line⟩ := lines d none
    rw [DriveLine.lowered_eq] at line
    refine ⟨fun nothing => ?_, fun a e one single => ?_⟩
    · rw [nothing] at line
      exact line.trans lowered.symm
    · rw [one, free single] at line
      rw [lowered]
      exact line
  · have line := senses i
    refine ⟨fun nothing => ?_, fun a e one => ⟨fun arm => ?_, fun disarm => ?_⟩⟩
    · rw [nothing] at line
      exact line
    · rw [one] at line
      simpa [SenseLine.served, arm] using line
    · rw [one] at line
      simpa [SenseLine.served, disarm] using line

end Sys2Proof.Machine
end

section
/-! SUPPORT. The parts of a boundary, one by one: the budget (R10), the exchange (R88), and the teardowns (R32, R34). -/

namespace Sys2Proof.Machine

/-! ## The budget (R10) -/

/-- The time base after the budget has been examined. -/
def TimeBase.examined (mode : Mode) (t : TimeBase) : TimeBase :=
  match t.budgetRemaining with
  | 0 => t
  | 1 => { t with
      run := mode.afterRunOut, count := 0, phase := 0, originReached := false, budgetRemaining := 0 }
  | k + 2 => { t with budgetRemaining := k + 1 }

/-- The three outcomes of examining the budget. -/
theorem State.examineBudget_cases (s : State) :
    (s.time.budgetRemaining = 0 ∧ s.examineBudget = s)
    ∨ (2 ≤ s.time.budgetRemaining
      ∧ s.examineBudget = s.setTime { s.time with budgetRemaining := s.time.budgetRemaining - 1 })
    ∨ (s.time.budgetRemaining = 1
      ∧ s.examineBudget = (s.setTime { s.time with budgetRemaining := 0 }).enterIdle s.settings.mode.afterRunOut) := by
  unfold State.examineBudget
  split
  · next none => exact .inl ⟨none, rfl⟩
  · next one => exact .inr (.inr ⟨one, rfl⟩)
  · next k more => exact .inr (.inl ⟨by omega, by rw [more]; rfl⟩)

theorem State.examineBudget_time (s : State) : s.examineBudget.time = s.time.examined s.settings.mode := by
  rcases s.examineBudget_cases with ⟨budget, eq⟩ | ⟨budget, eq⟩ | ⟨budget, eq⟩
  · simp [eq, TimeBase.examined, budget]
  · obtain ⟨k, more⟩ := Nat.exists_eq_add_of_le' budget
    simp [eq, TimeBase.examined, more]
  · simp [eq, TimeBase.examined, budget, State.enterIdle]

/-- Examining the budget concerns the time base, the drive lines and a count advance that has arisen. -/
theorem State.examineBudget_frame (s : State) : s.examineBudget =
    { s with
      time := s.examineBudget.time, drive := s.examineBudget.drive, arisen := s.examineBudget.arisen } := by
  rcases s.examineBudget_cases with ⟨-, eq⟩ | ⟨-, eq⟩ | ⟨-, eq⟩ <;> rw [eq] <;> rfl

/-! ## The exchange (R88, R90, R91) -/

/-- The session of agent `a` after part 2 of a boundary. -/
def State.exchanged (s : State) (n : Cycle) (a : Agent) : Session :=
  match (s.session a).commit with
  | .none => s.session a
  | .pending _ =>
    let q : Session := { s.session a with
      active := (s.session a).staging
      applied := some n
      commit := .none }
    if q.state.present then q.offer ⟨.commitApplied q.staging.length .boundary, n⟩ else q

theorem State.exchangePending_session (n : Cycle) (s : State) (a b : Agent) :
    (State.exchangePending n s a).session b = if b = a then s.exchanged n a else s.session b := by
  cases commit : (s.session a).commit with
  | none =>
    have kept : State.exchangePending n s a = s := by simp only [State.exchangePending, commit]
    have same : s.exchanged n a = s.session a := by simp only [State.exchanged, commit]
    rw [kept, same]
    split
    · next same => rw [same]
    · rfl
  | pending taken =>
    have done : State.exchangePending n s a = s.exchange n .boundary a := by
      simp only [State.exchangePending, commit]
    rw [done, State.exchange, State.notify, State.session_notifyEach]
    by_cases same : b = a
    · subst same
      simp [State.exchanged, commit]
    · simp [same]

theorem State.exchangePending_frame (n : Cycle) (s : State) (a : Agent) : State.exchangePending n s a =
    { s with sessions := (State.exchangePending n s a).sessions } := by
  unfold State.exchangePending
  split <;> rfl

/-- The exchanges of several agents do not concern each other. -/
theorem State.foldl_exchangePending (n : Cycle) {agents : List Agent} (distinct : agents.Nodup) (s : State) :
    agents.foldl (State.exchangePending n) s =
      { s with sessions := Bank.build fun b => if b ∈ agents then s.exchanged n b else s.session b } := by
  induction agents generalizing s with
  | nil =>
    have same : (Bank.build fun b => s.session b) = s.sessions := Bank.ext_read fun b => Bank.read_build _ b
    simp [same]
  | cons a agents ih =>
    obtain ⟨absent, distinct⟩ := List.nodup_cons.1 distinct
    have other : ∀ b, b ≠ a → (State.exchangePending n s a).exchanged n b = s.exchanged n b := by
      intro b ne
      have same : (State.exchangePending n s a).session b = s.session b := by
        rw [State.exchangePending_session, if_neg ne]
      simp only [State.exchanged, same]
    have sessions : (Bank.build fun b => if b ∈ agents then (State.exchangePending n s a).exchanged n b
        else (State.exchangePending n s a).session b)
        = Bank.build fun b => if b ∈ a :: agents then s.exchanged n b else s.session b := by
      congr 1
      funext b
      by_cases same : b = a
      · subst same
        rw [if_neg absent, if_pos (by simp), State.exchangePending_session, if_pos rfl]
      · simp only [List.mem_cons, same, false_or]
        rw [other b same, State.exchangePending_session, if_neg same]
    rw [List.foldl_cons, ih distinct, sessions, State.exchangePending_frame]

/-- Part 2 of a boundary: every session is exchanged for itself. -/
theorem State.exchangeAll_eq (s : State) (n : Cycle) :
    s.exchangeAll n = { s with sessions := Bank.build (s.exchanged n) } := by
  rw [State.exchangeAll, State.foldl_exchangePending n (List.nodup_finRange 4)]
  simp

theorem State.exchangeAll_session (s : State) (n : Cycle) (a : Agent) :
    (s.exchangeAll n).session a = s.exchanged n a := by
  rw [State.exchangeAll_eq, State.session, Bank.read_build]

@[simp] theorem State.exchangeAll_settings (s : State) (n : Cycle) : (s.exchangeAll n).settings = s.settings := by
  rw [State.exchangeAll_eq]

@[simp] theorem State.exchangeAll_time (s : State) (n : Cycle) : (s.exchangeAll n).time = s.time := by
  rw [State.exchangeAll_eq]

@[simp] theorem State.exchangeAll_ballot (s : State) (n : Cycle) : (s.exchangeAll n).ballot = s.ballot := by
  rw [State.exchangeAll_eq]

@[simp] theorem State.exchangeAll_driveOwner (s : State) (n : Cycle) :
    (s.exchangeAll n).driveOwner = s.driveOwner := by rw [State.exchangeAll_eq]

@[simp] theorem State.exchangeAll_senseOwner (s : State) (n : Cycle) :
    (s.exchangeAll n).senseOwner = s.senseOwner := by rw [State.exchangeAll_eq]

@[simp] theorem State.exchangeAll_drive (s : State) (n : Cycle) : (s.exchangeAll n).drive = s.drive := by
  rw [State.exchangeAll_eq]

/-- What an exchange makes of a session with a PENDING commit (R88). -/
structure Session.Exchanged (n : Cycle) (q r : Session) : Prop where
  state : r.state = q.state
  epoch : r.epoch = q.epoch
  lease : r.lease = q.lease
  staging : r.staging = q.staging
  settled : r.commit = .none
  pending : ∀ c, q.commit = .pending c → r.active = q.staging ∧ r.applied = some n
  none : q.commit = .none → r.active = q.active ∧ r.applied = q.applied

theorem State.exchanged_exchanged (s : State) (n : Cycle) (a : Agent) :
    (s.session a).Exchanged n (s.exchanged n a) := by
  unfold State.exchanged
  split
  · next none => exact ⟨rfl, rfl, rfl, rfl, none, fun c h => by simp [none] at h, fun _ => ⟨rfl, rfl⟩⟩
  · next taken pending =>
    dsimp only
    split
    · constructor <;> simp [pending]
    · constructor <;> simp [pending]

theorem Session.Exchanged.of_sameRecord {n : Cycle} {q r x : Session} (h : q.Exchanged n r) (k : r.SameRecord x) :
    q.Exchanged n x where
  state := k.state.trans h.state
  epoch := k.epoch.trans h.epoch
  lease := k.lease.trans h.lease
  staging := k.staging.trans h.staging
  settled := k.commit.trans h.settled
  pending c pending := by rw [k.active, k.applied]; exact h.pending c pending
  none none := by rw [k.active, k.applied]; exact h.none none

theorem Session.Exchanged.after_sameRecord {n : Cycle} {q r x : Session} (k : q.SameRecord r) (h : r.Exchanged n x) :
    q.Exchanged n x where
  state := h.state.trans k.state
  epoch := h.epoch.trans k.epoch
  lease := h.lease.trans k.lease
  staging := h.staging.trans k.staging
  settled := h.settled
  pending c pending := by rw [← k.staging]; exact h.pending c (k.commit.trans pending)
  none none := by rw [← k.active, ← k.applied]; exact h.none (k.commit.trans none)

/-! ## Leaving a ballot (R146) -/

@[simp] theorem State.notifyEach_nobody (s : State) (n : Cycle) (k : NoticeKind) :
    s.notifyEach n k (fun _ => false) = s := by
  have same : (Bank.build fun a => s.session a) = s.sessions := Bank.ext_read fun a => Bank.read_build _ a
  simp [State.notifyEach, same]

/-- An agent that leaves the ballot can change the slot, of which no new proposal comes, and bring a notice to some
sessions. -/
theorem State.leaveBallot_cases (s : State) (n : Cycle) (a : Agent) :
    ∃ (k : NoticeKind) (who : Agent → Bool) (b : Ballot), s.leaveBallot n a = { s.notifyEach n k who with ballot := b }
    ∧ ∀ p, b.slot.proposal? = some p → s.ballot.slot.proposal? = some p := by
  have unchanged : ∃ (k : NoticeKind) (who : Agent → Bool) (b : Ballot), s = { s.notifyEach n k who with ballot := b }
      ∧ ∀ p, b.slot.proposal? = some p → s.ballot.slot.proposal? = some p :=
    ⟨.peerJoined 0 0, fun _ => false, s.ballot, by rw [State.notifyEach_nobody], fun p h => h⟩
  unfold State.leaveBallot
  split
  · next b slot =>
    split
    · exact ⟨_, _, _, rfl, fun p h => by simp [Slot.proposal?] at h⟩
    · split
      · unfold State.holdOrPass
        split
        · exact ⟨_, _, _, rfl, fun p h => by simpa [slot, Slot.proposal?] using h⟩
        · exact ⟨.peerJoined 0 0, fun _ => false, _, by rw [State.notifyEach_nobody], fun p h => by
            simpa [slot, Slot.proposal?] using h⟩
      · exact unchanged
  · exact unchanged
  · exact unchanged

/-! ## Teardown (R32) -/

/-- What the teardowns of the agents `gone`, whose sessions become `after`, make of the state. -/
structure State.TornDown (after : SessionState) (gone : List Agent) (s t : State) : Prop where
  settings : t.settings = s.settings
  time : t.time = s.time
  proposal : ∀ p, t.ballot.slot.proposal? = some p → s.ballot.slot.proposal? = some p
  lines : ∀ d, t.line d = s.line d ∨ t.line d = .idle
  driveOwner : ∀ d, t.driveOwner.read d = (s.driveOwner.read d).filter (· ∉ gone)
  senseOwner : ∀ i, t.senseOwner.read i = (s.senseOwner.read i).filter (· ∉ gone)
  ended : ∀ a ∈ gone, t.session a = .vacant after (s.session a).epoch
  kept : ∀ a ∉ gone, (s.session a).SameRecord (t.session a)
  absent : ∀ a ∉ gone, (s.session a).state.present = false → t.session a = s.session a

theorem State.TornDown.refl (after : SessionState) (s : State) : s.TornDown after [] s where
  settings := rfl
  time := rfl
  proposal _ h := h
  lines _ := .inl rfl
  driveOwner d := by cases s.driveOwner.read d <;> rfl
  senseOwner i := by cases s.senseOwner.read i <;> rfl
  ended a h := by simp at h
  kept a _ := .refl _
  absent _ _ _ := rfl

theorem State.TornDown.trans {after : SessionState} {A B : List Agent} {s t u : State}
    (departs : after.present = false) (h : s.TornDown after A t) (k : t.TornDown after B u) :
    s.TornDown after (A ++ B) u where
  settings := k.settings.trans h.settings
  time := k.time.trans h.time
  proposal p hp := h.proposal p (k.proposal p hp)
  lines d := by
    rcases k.lines d with eq | eq
    · rw [eq]
      exact h.lines d
    · exact .inr eq
  driveOwner d := by
    rw [k.driveOwner, h.driveOwner, Option.filter_filter]
    simp
  senseOwner i := by
    rw [k.senseOwner, h.senseOwner, Option.filter_filter]
    simp
  ended a mem := by
    by_cases first : a ∈ A
    · have gone := h.ended a first
      by_cases again : a ∈ B
      · rw [k.ended a again, gone]
        rfl
      · rw [k.absent a again (by rw [gone]; exact departs), gone]
    · have second : a ∈ B := (List.mem_append.1 mem).resolve_left first
      rw [k.ended a second, (h.kept a first).epoch]
  kept a out := by
    obtain ⟨first, second⟩ := not_or.1 (List.mem_append.not.1 out)
    exact (h.kept a first).trans (k.kept a second)
  absent a out gone := by
    obtain ⟨first, second⟩ := not_or.1 (List.mem_append.not.1 out)
    have same := h.absent a first gone
    rw [k.absent a second (by rw [same]; exact gone), same]

@[simp] theorem State.session_clearLines (s : State) (a b : Agent) : (s.clearLines a).session b = s.session b := rfl

theorem State.session_vacate (s : State) (a b : Agent) (after : SessionState) : (s.vacate a after).session b =
    if b = a then .vacant after (s.session a).epoch else s.session b := State.session_setSession _ _ _ _

/-- A line released by agent `a` alone (R32). -/
theorem released_eq_filter (owner : Option Agent) (a : Agent) :
    (if owner == some a then none else owner) = owner.filter (· ∉ [a]) := by
  cases owner with
  | none => rfl
  | some b => by_cases same : b = a <;> simp [Option.filter, same]

/-- One teardown. -/
theorem State.tornDown_tearDown (s : State) (n : Cycle) (a : Agent) {after : SessionState} (reason : LeaveReason)
    (departs : after.present = false) : s.TornDown after [a] (s.tearDown n a after reason) := by
  obtain ⟨k, who, ballot, left, proposal⟩ := ((s.clearLines a).vacate a after).leaveBallot_cases n a
  have eq : s.tearDown n a after reason = { (((s.clearLines a).vacate a after).notifyEach n k who).notifyEach n
      (.peerLeft a (s.session a).epoch reason) (fun b => b != a) with ballot := ballot } := by
    rw [State.tearDown, left]
    rfl
  have session : ∀ b, (s.tearDown n a after reason).session b =
      ((((s.clearLines a).vacate a after).notifyEach n k who).notifyEach n
        (.peerLeft a (s.session a).epoch reason) fun b => b != a).session b := by
    intro b
    rw [eq]
    rfl
  have other : ∀ b ≠ a, ((s.clearLines a).vacate a after).session b = s.session b := by
    intro b ne
    rw [State.session_vacate, if_neg ne, State.session_clearLines]
  refine ⟨by rw [eq]; rfl, by rw [eq]; rfl, ?_, fun d => ?_, fun d => ?_, fun i => ?_, fun b mem => ?_, fun b out => ?_,
    fun b out absent => ?_⟩
  · rw [eq]
    exact proposal
  · have line : (s.tearDown n a after reason).line d = if s.ownsDrive a d then .idle else s.line d := by
      rw [eq]
      exact Bank.read_build _ d
    rw [line]
    split
    · exact .inr rfl
    · exact .inl rfl
  · rw [eq, ← released_eq_filter]
    exact Bank.read_build _ d
  · rw [eq, ← released_eq_filter]
    exact Bank.read_build _ i
  · obtain rfl := List.mem_singleton.1 mem
    have vacated : ((s.clearLines b).vacate b after).session b = .vacant after (s.session b).epoch := by
      rw [State.session_vacate, if_pos rfl, State.session_clearLines]
    have gone : (Session.vacant after (s.session b).epoch).state.present = false := departs
    rw [session, State.session_notifyEach, State.session_notifyEach, vacated]
    simp [gone]
  · have ne : b ≠ a := fun same => out (List.mem_singleton.2 same)
    have served := (((s.clearLines a).vacate a after).served_notifyEach n k who).trans
      (State.served_notifyEach _ n (.peerLeft a (s.session a).epoch reason) fun b => b != a)
    rw [session, ← other b ne]
    exact served.records b
  · have ne : b ≠ a := fun same => out (List.mem_singleton.2 same)
    rw [session, State.session_notifyEach, State.session_notifyEach, other b ne]
    simp [absent]

/-- Teardowns one after another. -/
theorem State.tornDown_foldl (n : Cycle) {after : SessionState} (reason : LeaveReason) (departs : after.present = false)
    (order : List Agent) (s : State) :
    s.TornDown after order (order.foldl (fun u a => u.tearDown n a after reason) s) := by
  induction order generalizing s with
  | nil => exact .refl after s
  | cons a order ih => exact (s.tornDown_tearDown n a reason departs).trans departs (ih _)

/-! ## An order that is free (log entry 6) -/

/-- The count of free choices is the model's own. -/
def State.withFreeCount (s : State) (k : Nat) : State := { s with freeCount := k }

theorem State.leaveBallot_withFreeCount (s : State) (n : Cycle) (a : Agent) (k : Nat) :
    (s.withFreeCount k).leaveBallot n a = (s.leaveBallot n a).withFreeCount k := by
  have slot : (s.withFreeCount k).ballot.slot = s.ballot.slot := rfl
  unfold State.leaveBallot
  rw [slot]
  split
  · split
    · rfl
    · split
      · unfold State.holdOrPass
        split <;> rfl
      · rfl
  · rfl
  · rfl

/-- A teardown neither makes a free choice nor rests on how many were made. -/
theorem State.tearDown_withFreeCount (s : State) (n : Cycle) (a : Agent) (after : SessionState) (reason : LeaveReason)
    (k : Nat) : (s.withFreeCount k).tearDown n a after reason = (s.tearDown n a after reason).withFreeCount k := by
  have vacated :
      ((s.withFreeCount k).clearLines a).vacate a after = ((s.clearLines a).vacate a after).withFreeCount k := rfl
  unfold State.tearDown
  rw [vacated, State.leaveBallot_withFreeCount]
  rfl

theorem State.foldl_withFreeCount {α : Type} {f : α → State → State}
    (free : ∀ x s k, f x (State.withFreeCount s k) = (f x s).withFreeCount k) (xs : List α) (s : State) (k : Nat) :
    xs.foldl (fun u x => f x u) (s.withFreeCount k) = (xs.foldl (fun u x => f x u) s).withFreeCount k := by
  induction xs generalizing s with
  | nil => rfl
  | cons x xs ih => rw [List.foldl_cons, List.foldl_cons, free, ih]

/-- Operations taken in a free order are taken in some order, each of them once. -/
theorem takeInAnyOrder_perm {α : Type} {f : α → State → State}
    (free : ∀ x s k, f x (State.withFreeCount s k) = (f x s).withFreeCount k) (fuel : Nat) (xs : List α)
    (enough : xs.length ≤ fuel) (s : State) : ∃ (order : List α) (k : Nat), order.Perm xs
      ∧ takeInAnyOrder f fuel xs s = (order.foldl (fun u x => f x u) s).withFreeCount k := by
  induction fuel generalizing xs s with
  | zero => exact ⟨[], s.freeCount, by simp [List.length_eq_zero_iff.1 (Nat.le_zero.1 enough)], rfl⟩
  | succ fuel ih =>
    match xs, enough with
    | [], _ => exact ⟨[], s.freeCount, .refl _, rfl⟩
    | [x], _ => exact ⟨[x], (f x s).freeCount, .refl _, rfl⟩
    | x :: y :: rest, enough =>
      have inside : s.chosen (x :: y :: rest).length < (x :: y :: rest).length := Nat.mod_lt _ (by simp)
      have left : ((x :: y :: rest).eraseIdx (s.chosen (x :: y :: rest).length)).length ≤ fuel := by
        rw [List.length_eraseIdx_of_lt inside]
        simp only [List.length_cons] at enough ⊢
        omega
      obtain ⟨order, k, perm, eq⟩ := ih _ left
        (f ((x :: y :: rest).getD (s.chosen (x :: y :: rest).length) x) (s.withFreeCount (s.freeCount + 1)))
      refine ⟨(x :: y :: rest).getD (s.chosen (x :: y :: rest).length) x :: order, k, ?_, ?_⟩
      · refine (perm.cons _).trans ?_
        rw [List.getD_eq_getElem _ _ inside]
        exact List.getElem_cons_eraseIdx_perm inside
      · have unfolded : takeInAnyOrder f (fuel + 1) (x :: y :: rest) s = takeInAnyOrder f fuel
            ((x :: y :: rest).eraseIdx (s.chosen (x :: y :: rest).length))
            (f ((x :: y :: rest).getD (s.chosen (x :: y :: rest).length) x) (s.withFreeCount (s.freeCount + 1))) := rfl
        rw [unfolded, eq, List.foldl_cons, free, State.foldl_withFreeCount free]
        rfl

/-- Part 4 of a boundary: the CLOSING sessions are torn down, in some order (R34). -/
theorem State.tearDownClosing_perm (s : State) (n : Cycle) : ∃ (order : List Agent) (k : Nat),
    order.Perm s.closingAgents ∧ s.tearDownClosing n =
      (order.foldl (fun u a => u.tearDown n a .closed .closed) s).withFreeCount k := by
  refine takeInAnyOrder_perm (fun a t k => t.tearDown_withFreeCount n a _ _ k) 4 _ ?_ s
  exact (List.length_filter_le _ _).trans (List.length_finRange).le

theorem State.mem_closingAgents (s : State) (a : Agent) : a ∈ s.closingAgents ↔ (s.session a).state = .closing := by
  simp [State.closingAgents]

/-- Part 4 of a boundary, as a relation. -/
theorem State.tornDown_tearDownClosing (s : State) (n : Cycle) :
    s.TornDown .closed s.closingAgents (s.tearDownClosing n) := by
  obtain ⟨order, k, perm, eq⟩ := s.tearDownClosing_perm n
  obtain ⟨settings, time, proposal, lines, driveOwner, senseOwner, ended, kept, absent⟩ :=
    State.tornDown_foldl n .closed (after := .closed) rfl order s
  simp only [perm.mem_iff] at driveOwner senseOwner
  rw [eq]
  exact ⟨settings, time, proposal, lines, driveOwner, senseOwner, fun a mem => ended a (perm.mem_iff.2 mem),
    fun a out => kept a (perm.mem_iff.not.2 out), fun a out => absent a (perm.mem_iff.not.2 out)⟩

end Sys2Proof.Machine
end

section
/-! SUPPORT. The boundary as a whole: its parts in order, the run state and the number after it, and what it does to
sessions and ownership (R13, R14, R17). -/

namespace Sys2Proof.Machine

/-! ## The state after each part (R13) -/

section

variable (s : State) (normal : Bool)

/-- A normal boundary begins with the countdown of its final count advance (R106). -/
def State.lastCount : State := if normal then s.countdown s.cycleAfterBoundary else s

/-- After part 1. -/
def State.cycleClosed : State := (s.lastCount normal).examineBudget

/-- After part 2. -/
def State.commitsExchanged : State := (s.cycleClosed normal).exchangeAll s.cycleAfterBoundary

/-- After part 3. -/
def State.ballotApplied : State := (s.commitsExchanged normal).applyAtBoundary s.cycleAfterBoundary

/-- After part 4. -/
def State.closingTornDown : State := (s.ballotApplied normal).tearDownClosing s.cycleAfterBoundary

/-- After part 5. -/
def State.deferralsLapsed : State := (s.closingTornDown normal).lapseDeferrals s.cycleAfterBoundary

theorem State.boundary_eq : s.boundary normal = (s.deferralsLapsed normal).completeBoundary.notifyBoundary
    s.cycleAfterBoundary (s.cycleClosed normal).time.run (s.ballotApplied normal).time.run := by
  unfold State.boundary State.deferralsLapsed State.closingTornDown State.ballotApplied State.commitsExchanged
    State.cycleClosed State.lastCount State.closeCycle
  dsimp only

/-! ## Part 1 -/

theorem State.served_lastCount : s.Served (s.lastCount normal) := by
  unfold State.lastCount
  split
  · exact s.served_countdown _
  · exact .refl s

theorem State.cycleClosed_time : (s.cycleClosed normal).time = s.time.examined s.settings.mode := by
  rw [State.cycleClosed, State.examineBudget_time, (s.served_lastCount normal).time,
    (s.served_lastCount normal).settings]

theorem State.cycleClosed_settings : (s.cycleClosed normal).settings = s.settings := by
  rw [State.cycleClosed, State.examineBudget_frame]
  exact (s.served_lastCount normal).settings

theorem State.cycleClosed_ballot : (s.cycleClosed normal).ballot = s.ballot := by
  rw [State.cycleClosed, State.examineBudget_frame]
  exact (s.served_lastCount normal).ballot

theorem State.cycleClosed_driveOwner : (s.cycleClosed normal).driveOwner = s.driveOwner := by
  rw [State.cycleClosed, State.examineBudget_frame]
  exact (s.served_lastCount normal).driveOwner

theorem State.cycleClosed_senseOwner : (s.cycleClosed normal).senseOwner = s.senseOwner := by
  rw [State.cycleClosed, State.examineBudget_frame]
  exact (s.served_lastCount normal).senseOwner

theorem State.cycleClosed_records (a : Agent) : (s.session a).SameRecord ((s.cycleClosed normal).session a) := by
  rw [State.cycleClosed, State.examineBudget_frame]
  exact (s.served_lastCount normal).records a

/-! ## Part 3 -/

theorem State.applyAtBoundary_passed {n : Cycle} {b : Agent} {p : Proposal} (h : s.ballot.slot = .passed b p) :
    s.applyAtBoundary n = ((s.applySettings p).emptySlot).notifySettings n .boundary := by
  simp [State.applyAtBoundary, h]

theorem State.applyAtBoundary_other {n : Cycle} (h : ∀ b p, s.ballot.slot ≠ .passed b p) :
    s.applyAtBoundary n = s := by
  unfold State.applyAtBoundary
  split
  · next b p passed => exact absurd passed (h b p)
  · rfl
  · rfl

theorem State.notifySettings_settings (n : Cycle) (way : Way) :
    (s.emptySlot.notifySettings n way).settings = s.settings := rfl

theorem State.notifySettings_slot (n : Cycle) (way : Way) :
    (s.emptySlot.notifySettings n way).ballot.slot = .empty := rfl

theorem State.notifySettings_time (n : Cycle) (way : Way) : (s.emptySlot.notifySettings n way).time = s.time := rfl

/-- Part 3 concerns no session record and no owner. -/
theorem State.applyAtBoundary_keeps (n : Cycle) : (∀ a, (s.session a).SameRecord ((s.applyAtBoundary n).session a))
    ∧ (s.applyAtBoundary n).driveOwner = s.driveOwner ∧ (s.applyAtBoundary n).senseOwner = s.senseOwner := by
  by_cases passed : ∃ b p, s.ballot.slot = .passed b p
  · obtain ⟨b, p, passed⟩ := passed
    have served := ((s.applySettings p).emptySlot).served_notifyEach n
      (.settingsApplied (s.applySettings p).emptySlot.ballot.number .boundary) fun _ => true
    rw [s.applyAtBoundary_passed passed]
    refine ⟨fun a => ?_, served.driveOwner.trans (s.applySettings_driveOwner p),
      served.senseOwner.trans (s.applySettings_senseOwner p)⟩
    have same : ((s.applySettings p).emptySlot).session a = s.session a := by
      show (s.applySettings p).sessions.read a = _
      rw [State.applySettings_sessions]
      rfl
    rw [← same]
    exact served.records a
  · have other : ∀ b p, s.ballot.slot ≠ .passed b p := fun b p h => passed ⟨b, p, h⟩
    rw [s.applyAtBoundary_other other]
    exact ⟨fun a => .refl _, rfl, rfl⟩

theorem State.commitsExchanged_ballot : (s.commitsExchanged normal).ballot = s.ballot := by
  rw [State.commitsExchanged, State.exchangeAll_ballot, State.cycleClosed_ballot]

theorem State.commitsExchanged_settings : (s.commitsExchanged normal).settings = s.settings := by
  rw [State.commitsExchanged, State.exchangeAll_settings, State.cycleClosed_settings]

theorem State.commitsExchanged_time : (s.commitsExchanged normal).time = s.time.examined s.settings.mode := by
  rw [State.commitsExchanged, State.exchangeAll_time, State.cycleClosed_time]

/-- Where no ballot is PASSED, part 3 does nothing. -/
theorem State.ballotApplied_other (h : ∀ b p, s.ballot.slot ≠ .passed b p) :
    s.ballotApplied normal = s.commitsExchanged normal := by
  rw [State.ballotApplied, State.applyAtBoundary_other]
  rw [State.commitsExchanged_ballot]
  exact h

theorem State.ballotApplied_passed {b : Agent} {p : Proposal} (h : s.ballot.slot = .passed b p) :
    s.ballotApplied normal =
      (((s.commitsExchanged normal).applySettings p).emptySlot).notifySettings s.cycleAfterBoundary .boundary := by
  rw [State.ballotApplied, State.applyAtBoundary_passed (b := b)]
  rw [State.commitsExchanged_ballot]
  exact h

/-! ## Parts 4 and 5, and completion (R14) -/

theorem State.tornDown_closingTornDown :
    (s.ballotApplied normal).TornDown .closed (s.ballotApplied normal).closingAgents (s.closingTornDown normal) :=
  State.tornDown_tearDownClosing _ _

theorem State.served_deferralsLapsed : (s.closingTornDown normal).Served (s.deferralsLapsed normal) :=
  State.served_lapseDeferrals _ _

theorem State.deferralsLapsed_time : (s.deferralsLapsed normal).time = (s.ballotApplied normal).time := by
  rw [(s.served_deferralsLapsed normal).time, (s.tornDown_closingTornDown normal).time]

theorem State.deferralsLapsed_settings : (s.deferralsLapsed normal).settings = (s.ballotApplied normal).settings := by
  rw [(s.served_deferralsLapsed normal).settings, (s.tornDown_closingTornDown normal).settings]

/-- No proposal stands after the teardowns that did not stand before them. -/
theorem State.deferralsLapsed_proposal {p : Proposal} (h : (s.deferralsLapsed normal).ballot.slot.proposal? = some p) :
    (s.ballotApplied normal).ballot.slot.proposal? = some p := by
  rw [(s.served_deferralsLapsed normal).ballot] at h
  exact (s.tornDown_closingTornDown normal).proposal p h

/-- The state in which the next cycle begins: in GATED mode, the gate path has set the run state (R14). -/
def State.resumed : State :=
  s.setTime { s.time with run := if s.settings.mode = .gated then s.gatedRun else .running }

theorem State.completeBoundary_running (h : s.time.run.isRunning = true) :
    s.completeBoundary = s.resumed.beginCycle := by
  rw [State.completeBoundary, if_pos h]
  rfl

theorem State.completeBoundary_idle (h : s.time.run.isRunning = false) : s.completeBoundary = s := by
  rw [State.completeBoundary, h]
  rfl

theorem State.resumed_isRunning : s.resumed.time.run.isRunning = true := by
  unfold State.resumed State.gatedRun
  simp only [State.setTime_time]
  split
  · split <;> rfl
  · rfl

/-- Completing a boundary begins a cycle, with all that a cycle sets, or changes nothing. -/
theorem State.completeBoundary_time : s.completeBoundary.time =
    if s.time.run.isRunning then { s.time with
      run := s.resumed.time.run, cycle := s.time.cycle + 1, count := 0, phase := 0
      originReached := s.resumed.time.run == .running }
    else s.time := by
  cases run : s.time.run.isRunning
  · rw [s.completeBoundary_idle run]
    rfl
  · rw [s.completeBoundary_running run, State.beginCycle_time]
    rfl

/-- The state with another time base and other events that have arisen. -/
def State.retimed (t : TimeBase) (arisen : List Event) : State := { s with time := t, arisen := arisen }

@[simp] theorem State.retimed_settings (t : TimeBase) (e : List Event) : (s.retimed t e).settings = s.settings := rfl

@[simp] theorem State.retimed_time (t : TimeBase) (e : List Event) : (s.retimed t e).time = t := rfl

@[simp] theorem State.retimed_ballot (t : TimeBase) (e : List Event) : (s.retimed t e).ballot = s.ballot := rfl

@[simp] theorem State.retimed_driveOwner (t : TimeBase) (e : List Event) :
    (s.retimed t e).driveOwner = s.driveOwner := rfl

@[simp] theorem State.retimed_senseOwner (t : TimeBase) (e : List Event) :
    (s.retimed t e).senseOwner = s.senseOwner := rfl

@[simp] theorem State.retimed_session (t : TimeBase) (e : List Event) (a : Agent) :
    (s.retimed t e).session a = s.session a := rfl

/-- Beside the time base and a count advance that has arisen, completing a boundary only serves entries. -/
theorem State.served_completeBoundary : ∃ arisen,
    (s.retimed s.completeBoundary.time arisen).Served s.completeBoundary := by
  cases run : s.time.run.isRunning
  · rw [s.completeBoundary_idle run]
    exact ⟨s.arisen, .refl s⟩
  · rw [s.completeBoundary_running run]
    exact ⟨_, s.resumed.served_beginCycle⟩

theorem State.served_notifyBoundary (n : Cycle) (r1 r3 : RunState) : s.Served (s.notifyBoundary n r1 r3) := by
  unfold State.notifyBoundary
  split
  · exact s.served_notifyEach _ _ _
  · split
    · exact .refl s
    · exact s.served_notifyEach _ _ _

/-- Beside the time base and a count advance that has arisen, what follows part 5 only serves entries and tells. -/
theorem State.served_boundary : ∃ arisen, ((s.deferralsLapsed normal).retimed
    (s.deferralsLapsed normal).completeBoundary.time arisen).Served (s.boundary normal) := by
  obtain ⟨arisen, served⟩ := (s.deferralsLapsed normal).served_completeBoundary
  rw [State.boundary_eq]
  exact ⟨arisen, served.trans (State.served_notifyBoundary _ _ _ _)⟩

theorem State.boundary_time : (s.boundary normal).time = (s.deferralsLapsed normal).completeBoundary.time := by
  obtain ⟨arisen, served⟩ := s.served_boundary normal
  rw [served.time, State.retimed_time]

theorem State.boundary_settings : (s.boundary normal).settings = (s.ballotApplied normal).settings := by
  obtain ⟨arisen, served⟩ := s.served_boundary normal
  rw [served.settings, State.retimed_settings, State.deferralsLapsed_settings]

theorem State.boundary_ballot : (s.boundary normal).ballot = (s.deferralsLapsed normal).ballot := by
  obtain ⟨arisen, served⟩ := s.served_boundary normal
  rw [served.ballot, State.retimed_ballot]

end

/-! ## The number after the boundary (R17) -/

/-- Whether settings applied leave the time base running does not rest on the gate. -/
theorem RunState.afterSettings_isRunning (field : Option RunField) (before after : Mode) (g h : Bool) (r : RunState) :
    (r.afterSettings field before after g).isRunning = (r.afterSettings field before after h).isRunning := by
  have start : (after.start g).isRunning = (after.start h).isRunning := by
    cases after <;> cases g <;> cases h <;> rfl
  cases r with
  | stopped =>
    simp only [RunState.afterSettings]
    split
    · exact start
    · rfl
  | armed =>
    simp only [RunState.afterSettings]
    split
    · rfl
    · exact start
  | running => rfl
  | held => rfl

theorem TimeBase.examined_run (mode : Mode) (t : TimeBase) :
    (t.examined mode).run = if t.budgetRemaining = 1 then mode.afterRunOut else t.run := by
  unfold TimeBase.examined
  split
  · next none => simp [none]
  · next one => simp [one]
  · next more => simp [more]

theorem TimeBase.examined_cycle (mode : Mode) (t : TimeBase) : (t.examined mode).cycle = t.cycle := by
  unfold TimeBase.examined
  split <;> rfl

section

variable (s : State) (normal : Bool)

/-- Parts 1 and 3 lead to a running time base exactly where the number after the boundary says so. -/
theorem State.ballotApplied_isRunning :
    (s.ballotApplied normal).time.run.isRunning = s.runAfterBoundary.isRunning := by
  by_cases passed : ∃ b p, s.ballot.slot = .passed b p
  · obtain ⟨b, p, passed⟩ := passed
    have run : (s.ballotApplied normal).time.run = (s.commitsExchanged normal).runApplied p := by
      rw [s.ballotApplied_passed normal passed, State.notifySettings_time, State.applySettings_run]
    rw [run, State.runApplied, State.commitsExchanged_time, State.commitsExchanged_settings, TimeBase.examined_run]
    unfold State.runAfterBoundary
    rw [passed]
    exact RunState.afterSettings_isRunning _ _ _ _ _ _
  · have other : ∀ b p, s.ballot.slot ≠ .passed b p := fun b p h => passed ⟨b, p, h⟩
    rw [s.ballotApplied_other normal other, State.commitsExchanged_time, TimeBase.examined_run]
    unfold State.runAfterBoundary
    cases slot : s.ballot.slot with
    | passed b p => exact absurd slot (other b p)
    | empty => rfl
    | openSlot b => rfl

theorem State.ballotApplied_cycle : (s.ballotApplied normal).time.cycle = s.time.cycle := by
  by_cases passed : ∃ b p, s.ballot.slot = .passed b p
  · obtain ⟨b, p, passed⟩ := passed
    rw [s.ballotApplied_passed normal passed, State.notifySettings_time, State.applySettings_cycle,
      State.commitsExchanged_time, TimeBase.examined_cycle]
  · rw [s.ballotApplied_other normal fun b p h => passed ⟨b, p, h⟩, State.commitsExchanged_time,
      TimeBase.examined_cycle]

theorem State.boundary_isRunning : (s.boundary normal).time.run.isRunning = s.runAfterBoundary.isRunning := by
  have run := s.ballotApplied_isRunning normal
  rw [← s.deferralsLapsed_time normal] at run
  rw [State.boundary_time, State.completeBoundary_time, ← run]
  split
  · next running =>
    rw [running]
    dsimp only
    exact (s.deferralsLapsed normal).resumed_isRunning
  · rfl

/-- Every notice of a boundary carries the cycle number after it (R17). -/
theorem State.boundary_cycle : (s.boundary normal).time.cycle = s.cycleAfterBoundary := by
  have run := s.ballotApplied_isRunning normal
  rw [← s.deferralsLapsed_time normal] at run
  have cycle := s.ballotApplied_cycle normal
  rw [← s.deferralsLapsed_time normal] at cycle
  rw [State.boundary_time, State.completeBoundary_time, State.cycleAfterBoundary, ← run]
  split <;> simp [cycle]

/-! ## A time base at rest (R11) -/

/-- A time base that does not run stands at the origin. -/
def TimeBase.AtRest (t : TimeBase) : Prop :=
  t.run.isRunning = false → t.count = 0 ∧ t.phase = 0 ∧ t.originReached = false

theorem TimeBase.AtRest.examined {t : TimeBase} (h : t.AtRest) (mode : Mode) : (t.examined mode).AtRest := by
  unfold TimeBase.examined
  split
  · exact h
  · exact fun _ => ⟨rfl, rfl, rfl⟩
  · exact h

theorem State.applySettings_atRest {s : State} (h : s.time.AtRest) (p : Proposal) :
    (s.applySettings p).time.AtRest := by
  intro idle
  rw [State.applySettings_run] at idle
  rcases s.applySettings_cases p with ⟨same | running, count, phase, origin, -⟩ | ⟨-, -, count, phase, origin, -⟩
  · rw [count, phase, origin]
    exact h (same ▸ idle)
  · rw [running] at idle
    cases idle
  · exact ⟨count, phase, origin⟩

theorem State.ballotApplied_atRest (h : s.time.AtRest) : (s.ballotApplied normal).time.AtRest := by
  have examined := h.examined s.settings.mode
  rw [← s.commitsExchanged_time normal] at examined
  by_cases passed : ∃ b p, s.ballot.slot = .passed b p
  · obtain ⟨b, p, passed⟩ := passed
    rw [s.ballotApplied_passed normal passed, State.notifySettings_time]
    exact State.applySettings_atRest examined p
  · rw [s.ballotApplied_other normal fun b p h => passed ⟨b, p, h⟩]
    exact examined

/-- A boundary leaves the time base at the origin of a cycle, or at rest there. -/
theorem State.boundary_origin (h : s.time.AtRest) :
    (s.boundary normal).time.count = 0 ∧ (s.boundary normal).time.phase = 0 := by
  have rest := s.ballotApplied_atRest normal h
  rw [State.boundary_time, State.completeBoundary_time, s.deferralsLapsed_time]
  split
  · exact ⟨rfl, rfl⟩
  · next idle =>
    obtain ⟨count, phase, -⟩ := rest (by simpa using idle)
    exact ⟨count, phase⟩

/-! ## Sessions and owners (R32, R88) -/

theorem State.ballotApplied_exchanged (a : Agent) :
    (s.session a).Exchanged s.cycleAfterBoundary ((s.ballotApplied normal).session a) := by
  have exchanged := (s.cycleClosed normal).exchanged_exchanged s.cycleAfterBoundary a
  rw [← State.exchangeAll_session] at exchanged
  exact (exchanged.after_sameRecord (s.cycleClosed_records normal a)).of_sameRecord
    (((s.commitsExchanged normal).applyAtBoundary_keeps _).1 a)

theorem State.ballotApplied_driveOwner : (s.ballotApplied normal).driveOwner = s.driveOwner := by
  rw [State.ballotApplied, ((s.commitsExchanged normal).applyAtBoundary_keeps _).2.1, State.commitsExchanged,
    State.exchangeAll_driveOwner, State.cycleClosed_driveOwner]

theorem State.ballotApplied_senseOwner : (s.ballotApplied normal).senseOwner = s.senseOwner := by
  rw [State.ballotApplied, ((s.commitsExchanged normal).applyAtBoundary_keeps _).2.2, State.commitsExchanged,
    State.exchangeAll_senseOwner, State.cycleClosed_senseOwner]

/-- The sessions torn down in part 4 are those that were CLOSING before the boundary. -/
theorem State.mem_ballotApplied_closingAgents (a : Agent) :
    a ∈ (s.ballotApplied normal).closingAgents ↔ (s.session a).state = .closing := by
  rw [State.mem_closingAgents, (s.ballotApplied_exchanged normal a).state]

theorem State.lapseDeferral_session_of_absent (n : Cycle) (d : Drive) {a : Agent}
    (h : (s.session a).state.present = false) : (s.lapseDeferral n d).session a = s.session a := by
  unfold State.lapseDeferral
  split
  · rfl
  · split
    · rfl
    · unfold State.notifyResolved
      split
      · rfl
      · rw [State.notify, State.session_notifyEach, State.session_setLine]
        simp [h]

/-- Lapsing deferred asserts tell no session that has ended. -/
theorem State.lapseDeferrals_session_of_absent (n : Cycle) {a : Agent} (h : (s.session a).state.present = false) :
    (s.lapseDeferrals n).session a = s.session a := by
  unfold State.lapseDeferrals
  generalize List.finRange 16 = lines
  induction lines generalizing s with
  | nil => rfl
  | cons d lines ih =>
    have same := s.lapseDeferral_session_of_absent n d h
    rw [List.foldl_cons, ih _ (by rw [same]; exact h), same]

theorem State.notifyBoundary_session_of_absent (n : Cycle) (r1 r3 : RunState) {a : Agent}
    (h : (s.session a).state.present = false) : (s.notifyBoundary n r1 r3).session a = s.session a := by
  have told : ∀ cause, (s.notifyTimebase n cause).session a = s.session a := by
    intro cause
    rw [State.notifyTimebase, State.notifyAll, State.session_notifyEach]
    simp [h]
  unfold State.notifyBoundary
  split
  · exact told _
  · split
    · rfl
    · exact told _

/-- Completing a boundary serves no session that has no active entry. -/
theorem State.completeBoundary_session_of_inactive {a : Agent} (h : (s.session a).active = []) :
    s.completeBoundary.session a = s.session a := by
  cases run : s.time.run.isRunning
  · rw [s.completeBoundary_idle run]
  · rw [s.completeBoundary_running run]
    rcases s.resumed.beginCycle_cases with ⟨-, eq⟩ | ⟨-, eq⟩ <;> rw [eq]
    · exact s.resumed.newCycle.reach_session_of_inactive 0 h
    · rfl

/-- A CLOSING session is left with nothing (R31, R32). -/
theorem State.boundary_session_of_closing {a : Agent} (h : (s.session a).state = .closing) :
    (s.boundary normal).session a = .vacant .closed (s.session a).epoch := by
  have gone := (s.tornDown_closingTornDown normal).ended a ((s.mem_ballotApplied_closingAgents normal a).2 h)
  rw [(s.ballotApplied_exchanged normal a).epoch] at gone
  have lapsed : (s.deferralsLapsed normal).session a = .vacant .closed (s.session a).epoch := by
    rw [State.deferralsLapsed, State.lapseDeferrals_session_of_absent, gone]
    rw [gone]
    rfl
  have completed : (s.deferralsLapsed normal).completeBoundary.session a = .vacant .closed (s.session a).epoch := by
    rw [State.completeBoundary_session_of_inactive, lapsed]
    rw [lapsed]
    rfl
  rw [State.boundary_eq, State.notifyBoundary_session_of_absent, completed]
  rw [completed]
  rfl

/-- Any other session has been exchanged, and keeps its record (R88). -/
theorem State.boundary_session_of_other {a : Agent} (h : (s.session a).state ≠ .closing) :
    (s.session a).Exchanged s.cycleAfterBoundary ((s.boundary normal).session a) := by
  obtain ⟨arisen, served⟩ := s.served_boundary normal
  have kept := (s.tornDown_closingTornDown normal).kept a ((s.mem_ballotApplied_closingAgents normal a).not.2 h)
  have lapsed := (s.served_deferralsLapsed normal).records a
  have completed := served.records a
  rw [State.retimed_session] at completed
  exact (s.ballotApplied_exchanged normal a).of_sameRecord (kept.trans (lapsed.trans completed))

/-- After a boundary, the owner of a drive line is its owner before, unless that session was CLOSING (R32). -/
theorem State.boundary_driveOwner (d : Drive) : (s.boundary normal).driveOwner.read d =
    (s.driveOwner.read d).filter (· ∉ (s.ballotApplied normal).closingAgents) := by
  obtain ⟨arisen, served⟩ := s.served_boundary normal
  have owner := (s.tornDown_closingTornDown normal).driveOwner d
  rw [State.ballotApplied_driveOwner] at owner
  rw [served.driveOwner, State.retimed_driveOwner, (s.served_deferralsLapsed normal).driveOwner, owner]

theorem State.boundary_senseOwner (i : Sense) : (s.boundary normal).senseOwner.read i =
    (s.senseOwner.read i).filter (· ∉ (s.ballotApplied normal).closingAgents) := by
  obtain ⟨arisen, served⟩ := s.served_boundary normal
  have owner := (s.tornDown_closingTornDown normal).senseOwner i
  rw [State.ballotApplied_senseOwner] at owner
  rw [served.senseOwner, State.retimed_senseOwner, (s.served_deferralsLapsed normal).senseOwner, owner]

end

theorem filter_notMem_ne {α : Type} [DecidableEq α] {gone : List α} {a : α} (h : a ∈ gone) (x : Option α) :
    x.filter (· ∉ gone) ≠ some a := by
  simp [Option.filter_eq_some_iff, h]

theorem filter_notMem_eq {α : Type} [DecidableEq α] {gone : List α} {x : Option α}
    (h : ∀ a, x = some a → a ∉ gone) : x.filter (· ∉ gone) = x := by
  cases x with
  | none => rfl
  | some a => simp [Option.filter, h a rfl]

/-- What a boundary does to sessions and ownership (R13, R32, R88). -/
theorem State.boundary_crossed (s : State) (normal : Bool) : BoundaryCrossed s (s.boundary normal) where
  settled a := by
    by_cases closing : (s.session a).state = .closing
    · rw [s.boundary_session_of_closing normal closing]
      rfl
    · exact (s.boundary_session_of_other normal closing).settled
  kept a other := by
    have exchanged := s.boundary_session_of_other normal other
    exact ⟨exchanged.state, exchanged.epoch, exchanged.lease, exchanged.staging⟩
  exchanged a c other pending := by
    rw [State.boundary_cycle]
    exact (s.boundary_session_of_other normal other).pending c pending
  unexchanged a other none := (s.boundary_session_of_other normal other).none none
  closed a closing := by
    have gone := (s.mem_ballotApplied_closingAgents normal a).2 closing
    rw [s.boundary_session_of_closing normal closing]
    refine ⟨rfl, rfl, ⟨rfl, rfl, rfl, rfl, rfl, rfl⟩, fun d => ?_, fun i => ?_⟩
    · rw [State.boundary_driveOwner]
      exact filter_notMem_ne gone _
    · rw [State.boundary_senseOwner]
      exact filter_notMem_ne gone _
  driveOwners d other := by
    rw [State.boundary_driveOwner]
    exact filter_notMem_eq fun a owner => (s.mem_ballotApplied_closingAgents normal a).not.2 (other a owner)
  senseOwners i other := by
    rw [State.boundary_senseOwner]
    exact filter_notMem_eq fun a owner => (s.mem_ballotApplied_closingAgents normal a).not.2 (other a owner)
  outside := by
    have shell := s.boundary_shell normal
    exact ⟨State.ports_of_shell shell, State.resetLow_of_shell shell, State.refclk_of_shell shell,
      State.pending_of_shell shell⟩

end Sys2Proof.Machine
end

section
/-! SUPPORT. A boundary part by part, as `IsBoundary` says it, and the time base after one. The statements on the count
advance at the last count and on the budget run-out. -/

namespace Sys2Proof.Machine

/-! ## The parts, as R13 and R14 give them -/

theorem Mode.afterRunOut_eq (mode : Mode) : mode.afterRunOut = if mode = .triggered then .armed else .stopped := by
  cases mode <;> rfl

section

variable (s : State)

/-- The budget runs out: the time base enters ARMED or STOPPED, and the lines are brought down (R10, R11). -/
theorem State.examineBudget_last (h : s.time.budgetRemaining = 1) : s.examineBudget = { s with
    time := { s.time with
      run := if s.settings.mode = .triggered then .armed else .stopped
      count := 0
      phase := 0
      originReached := false
      budgetRemaining := 0 }
    drive := Bank.build fun d => (s.line d).stopped
    arisen := s.arisen.filter fun e => e != Event.countAdvance } := by
  have eq : s.examineBudget =
      (s.setTime { s.time with budgetRemaining := 0 }).enterIdle s.settings.mode.afterRunOut := by
    rcases s.examineBudget_cases with ⟨none, -⟩ | ⟨more, -⟩ | ⟨-, eq⟩
    · omega
    · omega
    · exact eq
  rw [eq, Mode.afterRunOut_eq, State.enterIdle]
  simp only [DriveLine.stop_eq_stopped]
  rfl

/-- Part 1, by what is left of the budget. -/
theorem State.examineBudget_spec :
    (s.time.budgetRemaining = 0 → s.examineBudget = s)
    ∧ (2 ≤ s.time.budgetRemaining → s.examineBudget =
      { s with time := { s.time with budgetRemaining := s.time.budgetRemaining - 1 } }) := by
  rcases s.examineBudget_cases with ⟨none, eq⟩ | ⟨more, eq⟩ | ⟨one, -⟩
  · exact ⟨fun _ => eq, fun more => by omega⟩
  · exact ⟨fun none => by omega, fun _ => eq⟩
  · exact ⟨fun none => by omega, fun more => by omega⟩

/-- Part 3 with a PASSED ballot: its settings, and SETTINGS_APPLIED (R149, R150). -/
theorem State.applyAtBoundary_eq {n : Cycle} {b : Agent} {p : Proposal} (h : s.ballot.slot = .passed b p) :
    s.applyAtBoundary n = ({ s.applySettings p with ballot := { s.ballot with slot := .empty } } : State).notifyAll n
      (.settingsApplied s.ballot.number .boundary) := by
  rw [s.applyAtBoundary_passed h, State.emptySlot, State.applySettings_ballot]
  rfl

/-- The run state that the gate path sets in GATED mode (R14). -/
theorem State.resumed_eq : s.resumed = { s with time := { s.time with
    run := if s.settings.mode = .gated ∧ s.time.gate.level = .low then .held else .running } } := by
  have run : (if s.settings.mode = .gated then s.gatedRun else .running) =
      if s.settings.mode = .gated ∧ s.time.gate.level = .low then RunState.held else .running := by
    by_cases gated : s.settings.mode = .gated <;> cases level : s.time.gate.level <;>
      simp [gated, level, State.gatedRun, State.gateActive]
  rw [State.resumed, run]
  rfl

theorem State.cycleBegun_completeBoundary (h : s.time.run.isRunning = true) :
    CycleBegun { s with time := { s.time with
      run := if s.settings.mode = .gated ∧ s.time.gate.level = .low then .held else .running } }
      s.completeBoundary := by
  rw [s.completeBoundary_running h, ← State.resumed_eq]
  exact State.cycleBegun_beginCycle _

/-- The single TIMEBASE_CHANGED of a boundary, by the classes of its run states (R12). -/
theorem State.notifyBoundary_spec (n : Cycle) (r1 r3 : RunState) :
    (r3.runClass ≠ r1.runClass → s.notifyBoundary n r1 r3 = s.notifyTimebase n .settings)
    ∧ (r3.runClass = r1.runClass → r1.isRunning = true → s.notifyBoundary n r1 r3 = s)
    ∧ (r3.runClass = r1.runClass → r1.isRunning = false →
      s.notifyBoundary n r1 r3 = s.notifyTimebase n .budgetEnd) := by
  unfold State.notifyBoundary
  refine ⟨fun changed => if_pos changed, fun same running => ?_, fun same idle => ?_⟩
  · rw [if_neg (not_not.2 same), if_pos running]
  · rw [if_neg (not_not.2 same), idle]
    rfl

/-- Every boundary runs through its five parts. -/
theorem State.isBoundary_boundary (normal : Bool) : IsBoundary s normal (s.boundary normal) := by
  refine ⟨s.cycleAfterBoundary, s.cycleClosed normal, s.commitsExchanged normal, s.ballotApplied normal,
    s.closingTornDown normal, s.deferralsLapsed normal, ?_⟩
  have told := (s.deferralsLapsed normal).completeBoundary.notifyBoundary_spec s.cycleAfterBoundary
    (s.cycleClosed normal).time.run (s.ballotApplied normal).time.run
  rw [← State.boundary_eq] at told
  obtain ⟨changed, stays, ended⟩ := told
  constructor
  case number => rw [State.boundary_isRunning, State.cycleAfterBoundary]
  case closing =>
    obtain ⟨none, more⟩ := (s.lastCount normal).examineBudget_spec
    exact ⟨s.lastCount normal, rfl, none, more, (s.lastCount normal).examineBudget_last⟩
  case exchange => exact State.exchangeAll_eq _ _
  case settings => exact fun b p passed => (s.commitsExchanged normal).applyAtBoundary_eq passed
  case noSettings => exact fun other => (s.commitsExchanged normal).applyAtBoundary_other other
  case teardown =>
    obtain ⟨order, k, perm, eq⟩ := (s.ballotApplied normal).tearDownClosing_perm s.cycleAfterBoundary
    exact ⟨order, k, perm, eq⟩
  case lapse => rfl
  case completion =>
    exact ⟨(s.deferralsLapsed normal).completeBoundary, State.completeBoundary_idle _,
      State.cycleBegun_completeBoundary _, changed, stays, ended⟩

end

/-! ## The time base, the settings and the slot after a boundary -/

section

variable (s : State) (normal : Bool)

theorem Slot.proposal?_eq_none {x : Slot} : x.proposal? = none ↔ x = .empty := by
  cases x <;> simp [Slot.proposal?]

/-- A PASSED ballot has been applied, and its slot is EMPTY (R149). -/
theorem State.boundary_passed {b : Agent} {p : Proposal} (h : s.ballot.slot = .passed b p) :
    (s.boundary normal).settings = s.settings.updated p ∧ (s.boundary normal).ballot.slot = .empty := by
  have applied := s.ballotApplied_passed normal h
  constructor
  · rw [State.boundary_settings, applied, State.notifySettings_settings, State.applySettings_settings,
      State.commitsExchanged_settings]
  · have slot : (s.ballotApplied normal).ballot.slot = .empty := by rw [applied, State.notifySettings_slot]
    rw [← Slot.proposal?_eq_none, Option.eq_none_iff_forall_not_mem]
    intro q stands
    rw [State.boundary_ballot] at stands
    have before := s.deferralsLapsed_proposal normal stands
    rw [slot] at before
    cases before

theorem TimeBase.examined_budget (mode : Mode) (t : TimeBase) :
    (t.examined mode).budgetRemaining = t.budgetRemaining - 1 := by
  unfold TimeBase.examined
  split
  · next none => simp [none]
  · next one => simp [one]
  · next k more => simp [more]

theorem TimeBase.examined_of_ne {t : TimeBase} (h : t.budgetRemaining ≠ 1) (mode : Mode) :
    t.examined mode = { t with budgetRemaining := t.budgetRemaining - 1 } := by
  obtain ⟨run, count, cycle, phase, origin, budget, trigger, gate, leasePhase⟩ := t
  match budget, h with
  | 0, _ => rfl
  | k + 2, _ => rfl

theorem TimeBase.examined_of_one {t : TimeBase} (h : t.budgetRemaining = 1) (mode : Mode) : t.examined mode = { t with
    run := if mode = .triggered then .armed else .stopped, count := 0, phase := 0, originReached := false
    budgetRemaining := 0 } := by
  simp [TimeBase.examined, h, Mode.afterRunOut_eq]

variable (other : ∀ b p, s.ballot.slot ≠ .passed b p)

include other

/-- Without a PASSED ballot, the settings stay. -/
theorem State.boundary_settings_other : (s.boundary normal).settings = s.settings := by
  rw [State.boundary_settings, s.ballotApplied_other normal other, State.commitsExchanged_settings]

/-- Without a PASSED ballot, the time base at the end of part 5 is the one the budget left. -/
theorem State.deferralsLapsed_other : (s.deferralsLapsed normal).time = s.time.examined s.settings.mode
    ∧ (s.deferralsLapsed normal).settings = s.settings := by
  rw [State.deferralsLapsed_time, State.deferralsLapsed_settings, s.ballotApplied_other normal other]
  exact ⟨s.commitsExchanged_time normal, s.commitsExchanged_settings normal⟩

theorem State.boundary_budget_other : (s.boundary normal).time.budgetRemaining = s.time.budgetRemaining - 1 := by
  obtain ⟨time, -⟩ := s.deferralsLapsed_other normal other
  rw [State.boundary_time, State.completeBoundary_time, time, ← TimeBase.examined_budget s.settings.mode]
  split <;> rfl

/-- Outside GATED mode, a time base that runs on begins the next cycle in RUNNING. -/
theorem State.boundary_time_running (running : s.time.run = .running) (budget : s.time.budgetRemaining ≠ 1)
    (mode : s.settings.mode ≠ .gated) : (s.boundary normal).time = { s.time with
      cycle := s.time.cycle + 1, count := 0, phase := 0, originReached := true
      budgetRemaining := s.time.budgetRemaining - 1 } := by
  obtain ⟨time, settings⟩ := s.deferralsLapsed_other normal other
  have resumed : (s.deferralsLapsed normal).resumed.time.run = .running := by
    rw [State.resumed, State.setTime_time, settings, if_neg mode]
  rw [State.boundary_time, State.completeBoundary_time, resumed, time, TimeBase.examined_of_ne budget]
  simp [running, RunState.isRunning]

/-- Where the budget runs out, no cycle begins. -/
theorem State.boundary_time_runOut (budget : s.time.budgetRemaining = 1) :
    (s.boundary normal).time = { s.time with
      run := if s.settings.mode = .triggered then .armed else .stopped
      count := 0, phase := 0, originReached := false, budgetRemaining := 0 } := by
  obtain ⟨time, -⟩ := s.deferralsLapsed_other normal other
  have idle : (if s.settings.mode = .triggered then RunState.armed else .stopped).isRunning = false := by
    split <;> rfl
  rw [State.boundary_time, State.completeBoundary_time, time, TimeBase.examined_of_one budget, idle]
  rfl

end

/-- What a boundary does to sessions and owners is told of any state with the same ones. -/
theorem BoundaryCrossed.of_same {s s' t : State} (h : BoundaryCrossed s' t) (sessions : s'.sessions = s.sessions)
    (driveOwner : s'.driveOwner = s.driveOwner) (senseOwner : s'.senseOwner = s.senseOwner)
    (shell : s'.shell = s.shell) : BoundaryCrossed s t := by
  have session : ∀ a, s'.session a = s.session a := fun a => by rw [State.session, sessions]; rfl
  obtain ⟨settled, kept, exchanged, unexchanged, closed, drives, senses, ports, resetLow, refclk, pending⟩ := h
  simp only [session, driveOwner, senseOwner, State.ports_of_shell shell, State.resetLow_of_shell shell,
    State.refclk_of_shell shell, State.pending_of_shell shell] at *
  exact ⟨settled, kept, exchanged, unexchanged, closed, drives, senses, ports, resetLow, refclk, pending⟩

/-! ## The statements -/

/-- Settles O54: the count advance at the last count is `State.boundary`, whose parts are
`State.isBoundary_boundary`. -/
theorem boundaryRunsItsFiveParts : Obligations.BoundaryRunsItsFiveParts := by
  intro s live running last
  have row := (s.taken .countAdvance).advanceCount_last running last
  rw [State.exec_countAdvance live, row]
  have start : (s.taken .countAdvance).setTime (s.taken .countAdvance).time.unphased = { s with
      time := { s.time with phase := 0 }
      arisen := s.arisen.filter fun e => e != Event.countAdvance } := rfl
  rw [start]
  generalize begun : ({ s with
      time := { s.time with phase := 0 }
      arisen := s.arisen.filter fun e => e != Event.countAdvance } : State) = u
  have time : u.time = { s.time with phase := 0 } := by rw [← begun]
  have settings : u.settings = s.settings := by rw [← begun]
  have ballot : u.ballot = s.ballot := by rw [← begun]
  have rest : u.time.AtRest := by
    intro idle
    rw [time, running] at idle
    cases idle
  obtain ⟨count, phase⟩ := u.boundary_origin true rest
  refine ⟨u.boundary true, rfl, count, phase, u.isBoundary_boundary true, ?_, ?_, fun b p passed => ?_, fun other => ?_⟩
  · rw [State.boundary_isRunning, State.boundary_cycle, State.cycleAfterBoundary, time]
  · refine (u.boundary_crossed true).of_same ?_ ?_ ?_ ?_ <;> rw [← begun]
    rfl
  · rw [← ballot] at passed
    rw [← settings]
    exact u.boundary_passed true passed
  · rw [← ballot] at other
    have budget : u.time.budgetRemaining = s.time.budgetRemaining := by rw [time]
    refine ⟨(u.boundary_settings_other true other).trans settings, ?_, fun left mode => ?_⟩
    · rw [u.boundary_budget_other true other, budget]
    · have run : u.time.run = .running := by rw [time]; exact running
      rw [u.boundary_time_running true other run (by rw [budget]; exact left) (by rw [settings]; exact mode)]
      exact ⟨run, rfl⟩

/-- A line brought down by a stop, with nothing left to happen on it (R11, R115). -/
structure DriveLine.Down (l : DriveLine) : Prop where
  guard : l.guardRemaining = 0
  pulseEnd : l.pulseEnd = none
  deferred : l.deferred = none
  level : l.forcing = .free → l.asserted = false

theorem DriveLine.down_stopped (l : DriveLine) : l.stopped.Down := ⟨rfl, rfl, rfl, fun free => by
  have forcing : l.forcing = .free := free
  simp [DriveLine.stopped, forcing]⟩

theorem DriveLine.down_idle : DriveLine.idle.Down := ⟨rfl, rfl, rfl, fun _ => rfl⟩

section

variable (s : State)

/-- A line without a deferred assert is not concerned where deferred asserts lapse (R108). -/
theorem State.lapseDeferrals_line_of_none (n : Cycle) {d : Drive} (h : (s.line d).deferred = none) :
    (s.lapseDeferrals n).line d = s.line d := by
  have one : ∀ (t : State) (e : Drive), (t.line d).deferred = none → (t.lapseDeferral n e).line d = t.line d := by
    intro t e none
    unfold State.lapseDeferral
    split
    · rfl
    · next x deferred =>
      have ne : d ≠ e := fun same => by simp [← same, none] at deferred
      split
      · rfl
      · rw [State.line, State.notifyResolved_drive]
        exact (t.line_setLine e d _).trans (if_neg ne)
  unfold State.lapseDeferrals
  generalize List.finRange 16 = lines
  induction lines generalizing s with
  | nil => rfl
  | cons e lines ih =>
    have same := one s e h
    rw [List.foldl_cons, ih _ (by rw [same]; exact h), same]

theorem State.notifyBoundary_line (n : Cycle) (r1 r3 : RunState) (d : Drive) :
    (s.notifyBoundary n r1 r3).line d = s.line d := by
  unfold State.notifyBoundary
  split
  · rfl
  · split <;> rfl

/-- Where the budget runs out and no ballot is PASSED, every line is down after the boundary (R11). -/
theorem State.boundary_down (normal : Bool) (other : ∀ b p, s.ballot.slot ≠ .passed b p)
    (budget : s.time.budgetRemaining = 1) (d : Drive) : ((s.boundary normal).line d).Down := by
  have last : (s.lastCount normal).time.budgetRemaining = 1 := by
    rw [(s.served_lastCount normal).time, budget]
  have applied : ((s.ballotApplied normal).line d).Down := by
    rw [s.ballotApplied_other normal other, State.line, State.commitsExchanged, State.exchangeAll_drive,
      State.cycleClosed, State.examineBudget_last _ last, Bank.read_build]
    exact DriveLine.down_stopped _
  have torn : ((s.closingTornDown normal).line d).Down := by
    rcases (s.tornDown_closingTornDown normal).lines d with same | idle
    · rw [same]
      exact applied
    · rw [idle]
      exact DriveLine.down_idle
  have idle : (s.deferralsLapsed normal).time.run.isRunning = false := by
    rw [(s.deferralsLapsed_other normal other).1, TimeBase.examined_of_one budget]
    dsimp only
    split <;> rfl
  rw [State.boundary_eq, State.notifyBoundary_line, State.completeBoundary_idle _ idle, State.deferralsLapsed,
    State.lapseDeferrals_line_of_none _ _ torn.deferred]
  exact torn

theorem State.exec_budgetRunOut {s : State} (live : s.live = true) : exec .budgetRunOut s = .next s.runOutBudget := by
  simp only [exec, execBudgetRunOut, live, if_true]

theorem State.runOutBudget_none (h : ¬ (s.time.run = .running ∧ s.time.budgetRemaining = 1)) : s.runOutBudget = s := by
  rw [State.runOutBudget, if_neg h]

theorem State.runOutBudget_normal (running : s.time.run = .running) (budget : s.time.budgetRemaining = 1)
    (last : s.settings.period ≤ s.time.count + 1) :
    s.runOutBudget = (s.setTime s.time.unphased).boundary true := by
  rw [State.runOutBudget, if_pos ⟨running, budget⟩, if_pos last, State.setTime, TimeBase.unphased]

theorem State.runOutBudget_early (running : s.time.run = .running) (budget : s.time.budgetRemaining = 1)
    (inside : s.time.count + 1 < s.settings.period) (mode : s.settings.mode = .restart) :
    s.runOutBudget = s.boundary false := by
  rw [State.runOutBudget, if_pos ⟨running, budget⟩, if_neg (not_le.2 inside), if_pos mode]

end

/-- Settles O55: the run-out is the boundary of its kind, after which every line is down. -/
theorem budgetRunOutStopsTheTimeBase : Obligations.BudgetRunOutStopsTheTimeBase := by
  intro s live
  rw [State.exec_budgetRunOut live]
  refine ⟨fun none => by rw [s.runOutBudget_none none], fun inside mode => ?_, fun running budget last => ?_,
    fun running budget inside mode => ?_, fun running budget stands other => ?_⟩
  · by_cases due : s.time.run = .running ∧ s.time.budgetRemaining = 1
    · rw [State.runOutBudget, if_pos due, if_neg (not_le.2 inside), if_neg mode]
    · rw [s.runOutBudget_none due]
  · exact ⟨_, congrArg _ (s.runOutBudget_normal running budget last), State.isBoundary_boundary _ true⟩
  · exact ⟨_, congrArg _ (s.runOutBudget_early running budget inside mode), State.isBoundary_boundary _ false⟩
  · rcases Nat.lt_or_ge (s.time.count + 1) s.settings.period with inside | last
    · have mode := stands.resolve_left (not_le.2 inside)
      refine ⟨_, congrArg _ (s.runOutBudget_early running budget inside mode), ?_, fun d => ?_,
        s.boundary_crossed false, s.boundary_settings_other false other⟩
      · exact s.boundary_time_runOut false other budget
      · obtain ⟨guard, pulseEnd, deferred, level⟩ := s.boundary_down false other budget d
        exact ⟨guard, pulseEnd, deferred, level⟩
    · refine ⟨_, congrArg _ (s.runOutBudget_normal running budget last), ?_, fun d => ?_,
        (State.boundary_crossed _ true).of_same rfl rfl rfl rfl, State.boundary_settings_other _ true other⟩
      · exact State.boundary_time_runOut (s.setTime s.time.unphased) true other budget
      · obtain ⟨guard, pulseEnd, deferred, level⟩ :=
          State.boundary_down (s.setTime s.time.unphased) true other budget d
        exact ⟨guard, pulseEnd, deferred, level⟩

end Sys2Proof.Machine
end

section
/-! SUPPORT. Trigger edges and gate changes (R5, R7, R9), and what reaching count 0 leaves as it is. -/

namespace Sys2Proof.Machine

/-! ## Count 0 is reached (R2, R59) -/

/-- Where no active entry names a target at a count, none is due. -/
theorem State.dueOn_eq_nil {s : State} {count : Nat} {t : Target}
    (h : ∀ a, ∀ e ∈ (s.session a).active, e.target = t → e.offset ≠ count) : s.dueOn count t = [] := by
  rw [List.eq_nil_iff_forall_not_mem]
  rintro ⟨a, e⟩ mem
  obtain ⟨active, target, offset, -⟩ := (s.mem_dueOn count t a e).1 mem
  exact h a e active target offset

theorem State.originReached_reach (s : State) : OriginReached s (s.reach 0) := by
  have served := s.served_reach 0
  have reached := s.reached_reach 0
  refine ⟨served.settings, served.ballot, served.driveOwner, served.senseOwner, served.records, fun d none => ?_,
    fun i none => ?_, served.ports, served.resetLow, served.refclk, served.pending⟩
  · rw [reached.lines, State.dueOn_eq_nil none]
    rfl
  · rw [reached.senseLines, State.dueOn_eq_nil none]
    rfl

/-- Notices queued after it concern nothing that is kept. -/
theorem OriginReached.notifyEach {s t : State} (h : OriginReached s t) (n : Cycle) (k : NoticeKind)
    (who : Agent → Bool) : OriginReached s (t.notifyEach n k who) where
  settings := h.settings
  ballot := h.ballot
  driveOwner := h.driveOwner
  senseOwner := h.senseOwner
  sessions a := (h.sessions a).trans ((t.served_notifyEach n k who).records a)
  lines := h.lines
  senseLines := h.senseLines
  outside := h.outside

/-- What is kept does not include the time base, nor the events that have arisen. -/
theorem OriginReached.of_retimed {s t : State} {time : TimeBase} {arisen : List Event}
    (h : OriginReached (s.retimed time arisen) t) : OriginReached s t :=
  ⟨h.settings, h.ballot, h.driveOwner, h.senseOwner, h.sessions, h.lines, h.senseLines, h.outside⟩

/-! ## Trigger edges (R7) -/

section

variable (s : State)

/-- The state in which a trigger start begins its cycle: RUNNING, with the budget loaded (R7, R10). -/
def State.triggered : State := s.setTime { s.time with run := .running, budgetRemaining := s.settings.budget }

theorem State.triggerStart_eq : s.triggerStart =
    s.triggered.beginCycle.notifyTimebase s.triggered.beginCycle.time.cycle .triggerStart := by
  unfold State.triggerStart State.loadBudget State.triggered State.setTime
  dsimp only

theorem State.triggered_beginCycle : s.triggered.beginCycle = s.triggered.newCycle.reach 0 := by
  rw [State.beginCycle, if_pos (show s.triggered.time.run = .running from rfl)]

theorem State.useTrigger_start (run : s.time.run = .armed) (mode : s.settings.mode = .triggered) :
    s.useTrigger = s.triggerStart := by
  unfold State.useTrigger
  rw [run, mode]

theorem State.useTrigger_restart (run : s.time.run = .running) (mode : s.settings.mode = .restart) :
    s.useTrigger = s.boundary false := by
  unfold State.useTrigger
  rw [run, mode]

theorem State.useTrigger_other (start : ¬ (s.time.run = .armed ∧ s.settings.mode = .triggered))
    (restart : ¬ (s.time.run = .running ∧ s.settings.mode = .restart)) : s.useTrigger = s := by
  unfold State.useTrigger
  split
  · next run mode => exact absurd ⟨run, mode⟩ start
  · next run mode => exact absurd ⟨run, mode⟩ restart
  all_goals rfl

theorem State.exec_triggerEdge {s : State} (live : s.live = true) :
    exec .triggerEdge s = .next (s.taken .triggerEdge).takeTriggerEdge := by
  rw [show Instr.triggerEdge = Event.triggerEdge.row from rfl, State.exec_row live, State.takeEvent_eq]
  unfold State.perform
  dsimp only

/-- The state in which the time base takes a trigger edge: the trigger path and its line show HIGH (R5). -/
def State.triggerShown (i : Sense) : State :=
  { s with
    time := { s.time with trigger := ⟨.high, 0⟩ }
    sense := s.sense.write i { s.senseLine i with sample := .high }
    arisen := s.arisen.filter fun e => e != Event.triggerEdge }

theorem State.takeTriggerEdge_sourced {i : Sense} (h : s.settings.triggerSource = some i) :
    (s.taken .triggerEdge).takeTriggerEdge = (s.triggerShown i).useTrigger := by
  unfold State.takeTriggerEdge
  rw [State.taken_settings, h]
  dsimp only
  exact congrArg State.useTrigger rfl

/-! ## Gate changes (R9) -/

theorem State.exec_gateChange {s : State} (live : s.live = true) (level : Level) :
    exec (.gateChange level) s = .next ((s.taken (.gateChange level)).takeGateChange level) := by
  rw [show Instr.gateChange level = (Event.gateChange level).row from rfl, State.exec_row live, State.takeEvent_eq]
  unfold State.perform
  dsimp only

/-- The state in which the time base takes a gate change: the gate path and its line show the level (R5). -/
def State.gateShown (i : Sense) (level : Level) : State :=
  { s with
    time := { s.time with gate := ⟨level, 0⟩ }
    sense := s.sense.write i { s.senseLine i with sample := level }
    arisen := s.arisen.filter fun e => e != Event.gateChange level }

theorem State.takeGateChange_sourced {i : Sense} (level : Level) (h : s.settings.gateSource = some i) :
    (s.taken (.gateChange level)).takeGateChange level = (s.gateShown i level).useGate level := by
  unfold State.takeGateChange
  rw [State.taken_settings, h]
  dsimp only
  exact congrArg (State.useGate · level) rfl

theorem State.useGate_hold (mode : s.settings.mode = .gated) (run : s.time.run = .running) :
    s.useGate .low = s.dropCountAdvance.setTime { s.time with run := .held } := by
  rw [State.useGate, if_neg (not_not.2 mode), if_pos ⟨run, rfl⟩]
  rfl

/-- Held time goes on, and count 0 is reached if it has not been in this cycle (R9). -/
theorem State.useGate_resume (mode : s.settings.mode = .gated) (run : s.time.run = .held) :
    s.useGate .high = if s.time.originReached then s.setTime { s.time with run := .running }
      else (s.setTime { s.time with run := .running }).reach 0 := by
  have held : ¬ (s.time.run = .running ∧ Level.high = .low) := fun h => by cases h.2
  rw [State.useGate, if_neg (not_not.2 mode), if_neg held, if_pos ⟨run, rfl⟩]
  rfl

theorem State.useGate_other (level : Level) (h : ¬ (s.settings.mode = .gated
    ∧ ((s.time.run = .running ∧ level = .low) ∨ (s.time.run = .held ∧ level = .high)))) : s.useGate level = s := by
  unfold State.useGate
  split
  · rfl
  · next gated =>
    have mode := not_not.1 gated
    split
    · next hold => exact absurd ⟨mode, .inl hold⟩ h
    · split
      · next resume => exact absurd ⟨mode, .inr resume⟩ h
      · rfl

end

/-- Settles O56: each row shows its path's level and then does what its table says. -/
theorem triggersStartAndGatesHold : Obligations.TriggersStartAndGatesHold := by
  refine ⟨?_, ?_, fun s live => ⟨fun none => ?_, fun level none => ?_⟩⟩
  · rintro i s s' live source shown
    have shown : s' = s.triggerShown i := shown
    have time : s'.time = { s.time with trigger := ⟨.high, 0⟩ } := by rw [shown]; rfl
    have settings : s'.settings = s.settings := by rw [shown]; rfl
    have ballot : s'.ballot = s.ballot := by rw [shown]; rfl
    rw [State.exec_triggerEdge live, s.takeTriggerEdge_sourced source, ← shown]
    refine ⟨fun run mode => ?start, fun run mode => ?restart, fun run mode budget other => ?inTime,
      fun start restart => ?_⟩
    case start =>
      rw [← settings] at mode
      rw [s'.useTrigger_start (by rw [time]; exact run) mode]
      have begun := s'.triggered_beginCycle
      have cycle := s'.triggered.beginCycle_time
      have reached : OriginReached s' s'.triggered.beginCycle := by
        rw [begun]
        exact OriginReached.of_retimed (s'.triggered.newCycle.originReached_reach)
      have tells : s'.triggered.beginCycle.time.run = .running ∧ s'.triggered.beginCycle.settings.mode = .triggered
          ∧ s'.triggered.beginCycle.time.budgetRemaining = s'.settings.budget := by
        rw [cycle, State.beginCycle_settings]
        exact ⟨rfl, mode, rfl⟩
      obtain ⟨run', mode', budget⟩ := tells
      refine ⟨_, rfl, ?_, ?_, s'.triggered.beginCycle, ?_, ?_⟩
      · rw [State.triggerStart_eq, State.notifyTimebase, State.notifyAll, State.notifyEach_time, cycle]
        rw [← settings, show s.time.cycle = s'.time.cycle by rw [time]]
        rfl
      · rw [State.triggerStart_eq]
        exact reached.notifyEach _ _ _
      · rw [← settings]
        exact State.cycleBegun_beginCycle _
      · rw [State.triggerStart_eq, State.notifyTimebase, run', mode', budget, settings]
    case restart =>
      rw [← settings] at mode
      exact ⟨_, congrArg _ (s'.useTrigger_restart (by rw [time]; exact run) mode), s'.isBoundary_boundary false⟩
    case inTime =>
      have run' : s'.time.run = .running := by rw [time]; exact run
      have mode' : s'.settings.mode = .restart := by rw [settings]; exact mode
      have other' : ∀ b p, s'.ballot.slot ≠ .passed b p := by rw [ballot]; exact other
      have budget' : s'.time.budgetRemaining = s.time.budgetRemaining := by rw [time]
      refine ⟨_, congrArg _ (s'.useTrigger_restart run' mode'), ?_, ?_, ?_⟩
      · rw [s'.boundary_time_running false other' run' (by rw [budget']; exact budget) (by rw [mode']; decide), budget',
          show s.time.cycle = s'.time.cycle by rw [time]]
      · refine (s'.boundary_crossed false).of_same ?_ ?_ ?_ ?_ <;> rw [shown] <;> rfl
      · rw [s'.boundary_settings_other false other', settings]
    · refine congrArg _ (s'.useTrigger_other ?_ ?_)
      · rw [time, settings]
        exact start
      · rw [time, settings]
        exact restart
  · rintro i level s s' live source shown
    have shown : s' = s.gateShown i level := shown
    have time : s'.time = { s.time with gate := ⟨level, 0⟩ } := by rw [shown]; rfl
    have settings : s'.settings = s.settings := by rw [shown]; rfl
    have run : s'.time.run = s.time.run := by rw [time]
    have origin : s'.time.originReached = s.time.originReached := by rw [time]
    rw [State.exec_gateChange live, s.takeGateChange_sourced level source, ← shown]
    rw [← settings, ← run, ← origin]
    refine ⟨fun mode running low => ?_, fun mode held high reached => ?_, fun mode held high unreached => ?_,
      fun other => congrArg _ (s'.useGate_other level other)⟩
    · subst low
      rw [s'.useGate_hold mode running]
      rfl
    · subst high
      rw [s'.useGate_resume mode held, reached]
      rfl
    · subst high
      rw [s'.useGate_resume mode held, unreached]
      have served := (s'.setTime { s'.time with run := .running }).served_reach 0
      refine ⟨_, rfl, ?_, rfl, ?_⟩
      · refine served.time.trans ?_
        simp [State.atCount]
      · exact OriginReached.of_retimed (s'.setTime { s'.time with run := .running }).originReached_reach
  · rw [State.exec_triggerEdge live]
    unfold State.takeTriggerEdge
    rw [State.taken_settings, none]
    rfl
  · rw [State.exec_gateChange live]
    unfold State.takeGateChange
    rw [State.taken_settings, none]
    rfl

end Sys2Proof.Machine
end

section
/-! SUPPORT. The legal values of the settings and the time base (section 1.1, R135), kept by every operation: most leave
settings, run state, count, phase and origin reached alone; those that change them are applications, cycles that begin,
and boundaries. -/

namespace Sys2Proof.Machine

/-! ## Operations that do not concern the time base -/

/-- What the legality of a time base rests on. -/
def TimeBase.clock (t : TimeBase) : RunState × Nat × Nat × Bool := (t.run, t.count, t.phase, t.originReached)

/-- From `s` to `t`, settings, run state, count, phase and origin reached stay, and no proposal is made. -/
structure State.SameClock (s t : State) : Prop where
  settings : t.settings = s.settings
  clock : t.time.clock = s.time.clock
  proposal : ∀ p, t.ballot.slot.proposal? = some p → s.ballot.slot.proposal? = some p

namespace State.SameClock

variable {s t u : State}

theorem refl (s : State) : s.SameClock s := ⟨rfl, rfl, fun _ h => h⟩

theorem trans (h : s.SameClock t) (k : t.SameClock u) : s.SameClock u :=
  ⟨k.settings.trans h.settings, k.clock.trans h.clock, fun p hp => h.proposal p (k.proposal p hp)⟩

theorem of_eq (settings : t.settings = s.settings) (time : t.time = s.time) (ballot : t.ballot = s.ballot) :
    s.SameClock t := ⟨settings, by rw [time], fun p h => by rwa [ballot] at h⟩

theorem of_served (h : s.Served t) : s.SameClock t := .of_eq h.settings h.time h.ballot

theorem of_tornDown {after : SessionState} {gone : List Agent} (h : s.TornDown after gone t) : s.SameClock t :=
  ⟨h.settings, by rw [h.time], h.proposal⟩

/-- The slot may become EMPTY. -/
theorem of_empty (settings : t.settings = s.settings) (time : t.time = s.time) (slot : t.ballot.slot = .empty) :
    s.SameClock t := ⟨settings, by rw [time], fun p h => by rw [slot] at h; cases h⟩

end State.SameClock

theorem LegalTime.of_sameClock {s t : State} (h : LegalTime s) (k : s.SameClock t) : LegalTime t := by
  obtain ⟨settings, proposal, count, phase, idle, armed, held⟩ := h
  obtain ⟨same, clock, stands⟩ := k
  simp only [TimeBase.clock, Prod.mk.injEq] at clock
  obtain ⟨sameRun, sameCount, samePhase, sameOrigin⟩ := clock
  constructor
  case settings => rwa [same]
  case proposal => intro p hp; rw [same]; exact proposal p (stands p hp)
  case count => rwa [same, sameCount]
  case phase => rwa [same, samePhase]
  case idle => rwa [sameRun, sameCount, samePhase, sameOrigin]
  case armed => rwa [same, sameRun]
  case held => rwa [same, sameRun]

/-- A time base at the origin of a cycle is legal with any legal settings. -/
theorem LegalTime.of_origin {s : State} (settings : s.settings.Legal)
    (proposal : ∀ p, s.ballot.slot.proposal? = some p → (s.settings.updated p).Legal) (count : s.time.count = 0)
    (phase : s.time.phase = 0) (rest : s.time.AtRest) (armed : s.time.run = .armed → s.settings.mode = .triggered)
    (held : s.time.run = .held → s.settings.mode = .gated) : LegalTime s where
  settings := settings
  proposal := proposal
  count := by rw [count]; exact lt_of_lt_of_le (by decide) settings.period.1
  phase := by rw [phase]; exact settings.divider.1
  idle := rest
  armed := armed
  held := held

/-- A running time base may take another legal count and phase. -/
theorem LegalTime.setTime_running {s : State} (h : LegalTime s) {t : TimeBase} (run : t.run = .running)
    (count : t.count < s.settings.period) (phase : t.phase < s.settings.divider) : LegalTime (s.setTime t) where
  settings := h.settings
  proposal := h.proposal
  count := count
  phase := phase
  idle idle := by
    rw [State.setTime_time, run] at idle
    cases idle
  armed armed := by
    rw [State.setTime_time, run] at armed
    cases armed
  held held := by
    rw [State.setTime_time, run] at held
    cases held

/-! ## Applications (R16) -/

/-- A time base is armed by settings in TRIGGERED mode only. -/
theorem RunState.mode_of_afterSettings_armed {field : Option RunField} {before after : Mode} {g : Bool} {r : RunState}
    (h : r.afterSettings field before after g = .armed) : after = .triggered := by
  have start : after.start g = .armed → after = .triggered := by
    cases after <;> cases g <;> simp [Mode.start]
  cases r with
  | stopped =>
    simp only [RunState.afterSettings] at h
    split at h
    · exact start h
    · cases h
  | armed =>
    simp only [RunState.afterSettings] at h
    split at h
    · cases h
    · exact start h
  | running =>
    simp only [RunState.afterSettings] at h
    split at h
    · cases h
    · split at h
      · next armed => exact armed.1
      · cases h
  | held =>
    simp only [RunState.afterSettings] at h
    split at h
    · cases h
    · split at h
      · next armed => exact armed.1
      · cases h

/-- A time base that does not run comes to HELD in GATED mode only. -/
theorem RunState.mode_of_afterSettings_held {field : Option RunField} {before after : Mode} {g : Bool} {r : RunState}
    (idle : r.isRunning = false) (h : r.afterSettings field before after g = .held) : after = .gated := by
  have start : after.start g = .held → after = .gated := by
    cases after <;> cases g <;> simp [Mode.start]
  cases r with
  | stopped =>
    simp only [RunState.afterSettings] at h
    split at h
    · exact start h
    · cases h
  | armed =>
    simp only [RunState.afterSettings] at h
    split at h
    · cases h
    · exact start h
  | running => cases idle
  | held => cases idle

/-- An immediate application, in the terms of what it sets. -/
theorem State.applyIfIdle_cases (s : State) : s.applyIfIdle = s
    ∨ ∃ b p v, s.ballot.slot = .passed b p ∧ s.time.run.isRunning = false
      ∧ ((s.runApplied p).isRunning = false ∧ v = s.applySettings p
        ∨ (s.runApplied p).isRunning = true ∧ v = (s.applySettings p).beginCycle)
      ∧ v.emptySlot.SameClock s.applyIfIdle := by
  cases slot : s.ballot.slot with
  | empty => exact .inl (by simp [State.applyIfIdle, slot])
  | openSlot b => exact .inl (by simp [State.applyIfIdle, slot])
  | passed b p =>
    cases run : s.time.run.isRunning
    case true => exact .inl (by simp [State.applyIfIdle, slot, run])
    case false =>
      refine .inr ⟨b, p, (s.applySettings p).beginIfStarted s.time.run, rfl, rfl, ?_, ?_⟩
      · rw [State.beginIfStarted, State.applySettings_run, run]
        cases started : (s.runApplied p).isRunning
        · exact .inl ⟨rfl, rfl⟩
        · exact .inr ⟨rfl, rfl⟩
      · have eq : s.applyIfIdle =
            ((((s.applySettings p).beginIfStarted s.time.run).emptySlot).notifyIfChanged s.time.run).notifySettings
              ((((s.applySettings p).beginIfStarted s.time.run).emptySlot).notifyIfChanged s.time.run).time.cycle
              .immediate := by
          simp [State.applyIfIdle, slot, run]
        rw [eq]
        refine .of_served (State.Served.trans ?_ (State.served_notifyEach _ _ _ _))
        unfold State.notifyIfChanged
        split
        · exact .refl _
        · exact State.served_notifyEach _ _ _ _

theorem LegalTime.applyIfIdle {s : State} (h : LegalTime s) : LegalTime s.applyIfIdle := by
  rcases s.applyIfIdle_cases with same | ⟨b, p, v, slot, idle, made, told⟩
  · rw [same]
    exact h
  · refine LegalTime.of_sameClock ?_ told
    have legal : (s.settings.updated p).Legal := h.proposal p (by rw [slot]; rfl)
    have rest := State.applySettings_atRest h.idle p
    have none : ∀ q, v.emptySlot.ballot.slot.proposal? = some q → (v.emptySlot.settings.updated q).Legal := by
      intro q stands
      cases stands
    have armed : (s.runApplied p) = .armed → (s.settings.updated p).mode = .triggered :=
      RunState.mode_of_afterSettings_armed
    have held : (s.runApplied p) = .held → (s.settings.updated p).mode = .gated :=
      RunState.mode_of_afterSettings_held idle
    rcases made with ⟨stays, rfl⟩ | ⟨starts, rfl⟩
    · have settings : (s.applySettings p).emptySlot.settings = s.settings.updated p := s.applySettings_settings p
      have run : (s.applySettings p).emptySlot.time.run = s.runApplied p := s.applySettings_run p
      rw [← settings] at legal armed held
      obtain ⟨count, phase, origin⟩ := rest (by rw [State.applySettings_run]; exact stays)
      rw [← run] at armed held
      exact LegalTime.of_origin legal none count phase rest armed held
    · have settings : (s.applySettings p).beginCycle.emptySlot.settings = s.settings.updated p := by
        show (s.applySettings p).beginCycle.settings = _
        rw [State.beginCycle_settings, State.applySettings_settings]
      have time : (s.applySettings p).beginCycle.emptySlot.time = (s.applySettings p).beginCycle.time := rfl
      rw [State.beginCycle_time] at time
      have run : (s.applySettings p).beginCycle.emptySlot.time.run = s.runApplied p := by
        rw [time]
        exact s.applySettings_run p
      rw [← settings] at legal armed held
      rw [← run] at armed held starts
      refine LegalTime.of_origin legal none ?_ ?_ ?_ armed held
      · rw [time]
      · rw [time]
      · intro idle
        rw [starts] at idle
        cases idle

/-! ## Boundaries (R13, R14) -/

theorem LegalTime.examined_armed {s : State} (h : LegalTime s)
    (armed : (s.time.examined s.settings.mode).run = .armed) : s.settings.mode = .triggered := by
  rw [TimeBase.examined_run] at armed
  split at armed
  · rw [Mode.afterRunOut_eq] at armed
    by_contra mode
    rw [if_neg mode] at armed
    cases armed
  · exact h.armed armed

/-- After part 3, the settings are legal, so are those of a proposal that stands, and ARMED is of TRIGGERED mode. -/
theorem LegalTime.ballotApplied {s : State} (h : LegalTime s) (normal : Bool) :
    (s.ballotApplied normal).settings.Legal
    ∧ (∀ p, (s.ballotApplied normal).ballot.slot.proposal? = some p →
      ((s.ballotApplied normal).settings.updated p).Legal)
    ∧ ((s.ballotApplied normal).time.run = .armed → (s.ballotApplied normal).settings.mode = .triggered) := by
  by_cases passed : ∃ b p, s.ballot.slot = .passed b p
  · obtain ⟨b, p, passed⟩ := passed
    rw [s.ballotApplied_passed normal passed, State.notifySettings_settings, State.notifySettings_slot,
      State.notifySettings_time, State.applySettings_settings, State.applySettings_run, State.commitsExchanged_settings]
    refine ⟨h.proposal p (by rw [passed]; rfl), fun q none => (by cases none), fun armed => ?_⟩
    rw [State.runApplied, State.commitsExchanged_settings] at armed
    exact RunState.mode_of_afterSettings_armed armed
  · rw [s.ballotApplied_other normal fun b p h => passed ⟨b, p, h⟩, State.commitsExchanged_settings,
      State.commitsExchanged_ballot, State.commitsExchanged_time]
    exact ⟨h.settings, h.proposal, h.examined_armed⟩

theorem LegalTime.boundary {s : State} (h : LegalTime s) (normal : Bool) : LegalTime (s.boundary normal) := by
  obtain ⟨settings, proposal, armed⟩ := h.ballotApplied normal
  have rest := s.ballotApplied_atRest normal h.idle
  obtain ⟨count, phase⟩ := s.boundary_origin normal h.idle
  have time := s.boundary_time normal
  rw [State.completeBoundary_time] at time
  rw [← s.deferralsLapsed_time normal] at armed rest
  refine LegalTime.of_origin ?_ (fun p stands => ?_) count phase ?_ (fun arms => ?_) fun holds => ?_
  · rwa [State.boundary_settings]
  · rw [State.boundary_settings]
    rw [State.boundary_ballot] at stands
    exact proposal p (s.deferralsLapsed_proposal normal stands)
  · intro idle
    rw [time] at idle ⊢
    split at idle
    · have running := (s.deferralsLapsed normal).resumed_isRunning
      dsimp only at idle
      rw [running] at idle
      cases idle
    · next stays => rw [if_neg stays]; exact rest idle
  · rw [State.boundary_settings]
    rw [time] at arms
    split at arms
    · have running := (s.deferralsLapsed normal).resumed_isRunning
      dsimp only at arms
      rw [arms] at running
      cases running
    · exact armed arms
  · rw [State.boundary_settings, ← State.deferralsLapsed_settings]
    rw [time] at holds
    split at holds
    · dsimp only at holds
      by_contra mode
      rw [State.resumed, State.setTime_time, if_neg mode] at holds
      cases holds
    · next stays =>
      rw [holds] at stays
      exact absurd rfl stays

/-! ## Count advances, trigger edges and gate changes (R1, R7, R9) -/

theorem LegalTime.advanceCount {s : State} (h : LegalTime s) : LegalTime s.advanceCount := by
  by_cases run : s.time.run = .running
  · rcases Nat.lt_or_ge (s.time.count + 1) s.settings.period with inside | last
    · refine LegalTime.of_sameClock ?_ (.of_served (s.advanceCount_served run inside))
      exact h.setTime_running run inside h.settings.divider.1
    · rw [s.advanceCount_last run last]
      exact (h.setTime_running (t := s.time.unphased) run h.count h.settings.divider.1).boundary true
  · rw [s.advanceCount_idle run]
    exact h

theorem LegalTime.triggerStart {s : State} (h : LegalTime s) : LegalTime s.triggerStart := by
  rw [State.triggerStart_eq]
  refine LegalTime.of_sameClock ?_ (.of_served (State.served_notifyEach _ _ _ _))
  have time := s.triggered.beginCycle_time
  have settings := s.triggered.beginCycle_settings
  have ballot := s.triggered.beginCycle_ballot
  have run : s.triggered.beginCycle.time.run = .running := by rw [time]; rfl
  refine LegalTime.of_origin ?_ (fun p stands => ?_) ?_ ?_ (fun idle => ?_) (fun armed => ?_) fun held => ?_
  · rw [settings]
    exact h.settings
  · rw [ballot] at stands
    rw [settings]
    exact h.proposal p stands
  · rw [time]
  · rw [time]
  · rw [run] at idle
    cases idle
  · rw [run] at armed
    cases armed
  · rw [run] at held
    cases held

theorem LegalTime.takeTriggerEdge {s : State} (h : LegalTime s) : LegalTime s.takeTriggerEdge := by
  unfold State.takeTriggerEdge
  split
  · exact h
  · next i source =>
    have shown : LegalTime { s.showLevel i .high with time := { s.time with trigger := .at_ .high } } :=
      h.of_sameClock ⟨rfl, rfl, fun _ hp => hp⟩
    generalize ({ s.showLevel i .high with time := { s.time with trigger := Path.at_ .high } } : State) = t at shown ⊢
    by_cases start : t.time.run = .armed ∧ t.settings.mode = .triggered
    · rw [t.useTrigger_start start.1 start.2]
      exact shown.triggerStart
    · by_cases restart : t.time.run = .running ∧ t.settings.mode = .restart
      · rw [t.useTrigger_restart restart.1 restart.2]
        exact shown.boundary false
      · rw [t.useTrigger_other start restart]
        exact shown

theorem LegalTime.useGate {s : State} (h : LegalTime s) (level : Level) : LegalTime (s.useGate level) := by
  by_cases acts : s.settings.mode = .gated
      ∧ ((s.time.run = .running ∧ level = .low) ∨ (s.time.run = .held ∧ level = .high))
  · obtain ⟨mode, ⟨run, rfl⟩ | ⟨run, rfl⟩⟩ := acts
    · rw [s.useGate_hold mode run]
      exact ⟨h.settings, h.proposal, h.count, h.phase, fun idle => (by cases idle), fun armed => (by cases armed),
        fun _ => mode⟩
    · have resumed : LegalTime (s.setTime { s.time with run := .running }) :=
        h.setTime_running rfl h.count h.phase
      rw [s.useGate_resume mode run]
      split
      · exact resumed
      · refine LegalTime.of_sameClock ?_ (.of_served (State.served_reach _ 0))
        exact h.setTime_running rfl h.count h.phase
  · rw [s.useGate_other level acts]
    exact h

theorem LegalTime.takeGateChange {s : State} (h : LegalTime s) (level : Level) :
    LegalTime (s.takeGateChange level) := by
  unfold State.takeGateChange
  split
  · exact h
  · refine LegalTime.useGate ?_ level
    exact h.of_sameClock ⟨rfl, rfl, fun _ hp => hp⟩

end Sys2Proof.Machine
end

section
/-! SUPPORT. The legal values kept by sessions, leases, ballots and the owning blocks' commands: all but an application
leave the clock alone, and the checks of PROPOSE let only legal settings stand as a proposal (R135, R136). -/

namespace Sys2Proof.Machine

/-! ## Ballots and teardowns -/

namespace State

variable (s : State)

theorem sameClock_failBallot (n : Cycle) (b : OpenBallot) (reason : FailReason) :
    s.SameClock (s.failBallot n b reason) := .of_empty rfl rfl rfl

theorem sameClock_passBallot {s : State} (n : Cycle) {b : OpenBallot}
    (stands : s.ballot.slot.proposal? = some b.proposal) : s.SameClock (s.passBallot n b) :=
  ⟨rfl, rfl, fun _ h => stands.trans h⟩

theorem sameClock_holdOrPass {s : State} (n : Cycle) {b : OpenBallot}
    (stands : s.ballot.slot.proposal? = some b.proposal) : s.SameClock (s.holdOrPass n b) := by
  unfold State.holdOrPass
  split
  · exact sameClock_passBallot n stands
  · exact ⟨rfl, rfl, fun _ h => stands.trans h⟩

theorem sameClock_leaveBallot (n : Cycle) (a : Agent) : s.SameClock (s.leaveBallot n a) := by
  obtain ⟨k, who, b, left, proposal⟩ := s.leaveBallot_cases n a
  rw [left]
  exact ⟨rfl, rfl, proposal⟩

theorem sameClock_expireDeadline : s.SameClock s.expireDeadline := by
  unfold State.expireDeadline
  split
  · split
    · exact s.sameClock_failBallot _ _ _
    · exact .refl s
  · exact .refl s
  · exact .refl s

theorem sameClock_lowerLeases : s.SameClock s.lowerLeases := by
  refine ⟨rfl, rfl, fun p h => ?_⟩
  rw [← h]
  show s.ballot.slot.proposal? = s.ballot.slot.lowerDeadline.proposal?
  cases s.ballot.slot <;> rfl

end State

theorem LegalTime.tearDownNow {s : State} (h : LegalTime s) (a : Agent) {after : SessionState} (reason : LeaveReason)
    (departs : after.present = false) : LegalTime (s.tearDownNow a after reason) :=
  (h.of_sameClock (.of_tornDown (s.tornDown_tearDown _ a reason departs))).applyIfIdle

theorem LegalTime.expireLease {s : State} (h : LegalTime s) (a : Agent) : LegalTime (s.expireLease a) := by
  unfold State.expireLease
  split
  · exact h.tearDownNow a .expired rfl
  · exact h

theorem LegalTime.resetSession {s : State} (h : LegalTime s) (a : Agent) : LegalTime (s.resetSession a) := by
  unfold State.resetSession
  split
  · exact h.tearDownNow a .portReset rfl
  · exact h.of_sameClock (.of_eq rfl rfl rfl)

/-! ## Commands that do not concern the clock -/

namespace State

variable (s : State) (a : Agent)

theorem sameClock_takeOpen (bs : List Byte) : s.SameClock (s.takeOpen a bs).1 := by
  unfold State.takeOpen
  dsimp only
  split
  · exact .refl s
  · exact .of_eq rfl rfl rfl

theorem sameClock_takeRenew (bs : List Byte) : s.SameClock (s.takeRenew a bs).1 := by
  unfold State.takeRenew
  dsimp only
  split
  · exact .refl s
  · split
    · exact .refl s
    · exact .of_eq rfl rfl rfl

theorem sameClock_takeReserve (bs : List Byte) : s.SameClock (s.takeReserve a bs).1 := by
  unfold State.takeReserve
  dsimp only
  split
  · exact .refl s
  · split
    · exact .refl s
    · exact .of_eq rfl rfl rfl

theorem sameClock_takeRelease (bs : List Byte) : s.SameClock (s.takeRelease a bs).1 := by
  unfold State.takeRelease
  dsimp only
  split
  · exact .refl s
  · split
    · exact .refl s
    · exact .of_eq rfl rfl rfl

theorem sameClock_takeStage (bs : List Byte) : s.SameClock (s.takeStage a bs).1 := by
  unfold State.takeStage
  dsimp only
  repeat' split
  all_goals exact .of_eq rfl rfl rfl

theorem sameClock_takeAmend (bs : List Byte) : s.SameClock (s.takeAmend a bs).1 := by
  unfold State.takeAmend
  dsimp only
  repeat' split
  all_goals exact .of_eq rfl rfl rfl

theorem sameClock_takeWithdraw (bs : List Byte) : s.SameClock (s.takeWithdraw a bs).1 := by
  unfold State.takeWithdraw
  dsimp only
  repeat' split
  all_goals exact .of_eq rfl rfl rfl

theorem sameClock_takeClear : s.SameClock (s.takeClear a).1 := by
  unfold State.takeClear
  dsimp only
  split
  · exact .refl s
  · exact .of_eq rfl rfl rfl

theorem sameClock_takeReadStaged (bs : List Byte) : s.SameClock (s.takeReadStaged a bs).1 := by
  unfold State.takeReadStaged
  dsimp only
  split <;> exact .refl s

theorem sameClock_takeReadActive (bs : List Byte) : s.SameClock (s.takeReadActive bs).1 := by
  unfold State.takeReadActive
  split <;> exact .refl s

theorem sameClock_takeCommit : s.SameClock (s.takeCommit a).1 := by
  unfold State.takeCommit
  dsimp only
  repeat' split
  all_goals exact .of_eq rfl rfl rfl

theorem sameClock_takeAbandon : s.SameClock (s.takeAbandon a).1 := by
  unfold State.takeAbandon
  dsimp only
  split
  · exact .refl s
  · exact .of_eq rfl rfl rfl

theorem sameClock_takeForce (bs : List Byte) : s.SameClock (s.takeForce a bs).1 := by
  unfold State.takeForce
  dsimp only
  repeat' split
  all_goals exact .of_eq rfl rfl rfl

theorem sameClock_takeUnforce (bs : List Byte) : s.SameClock (s.takeUnforce a bs).1 := by
  unfold State.takeUnforce
  dsimp only
  repeat' split
  all_goals exact .of_eq rfl rfl rfl

theorem sameClock_takeSetSense (bs : List Byte) : s.SameClock (s.takeSetSense a bs).1 := by
  unfold State.takeSetSense
  dsimp only
  repeat' split
  all_goals exact .of_eq rfl rfl rfl

theorem sameClock_serveSense (i : Sense) (act : Action) : s.SameClock (s.serveSense i act) := by
  unfold State.serveSense
  split <;> exact .of_eq rfl rfl rfl

theorem sameClock_takeArming (bs : List Byte) (act : Action) : s.SameClock (s.takeArming a bs act).1 := by
  unfold State.takeArming
  dsimp only
  split
  · exact .refl s
  · split
    · exact .refl s
    · exact s.sameClock_serveSense _ act

theorem sameClock_takeReadCaptures (bs : List Byte) : s.SameClock (s.takeReadCaptures a bs).1 := by
  unfold State.takeReadCaptures
  dsimp only
  split
  · exact .refl s
  · exact .of_eq rfl rfl rfl

theorem sameClock_takeReadNotices (bs : List Byte) : s.SameClock (s.takeReadNotices a bs).1 := by
  unfold State.takeReadNotices
  dsimp only
  repeat' split
  all_goals exact .of_eq rfl rfl rfl

/-- The open ballot that a ballot number names is the one that stands. -/
theorem openNumbered_proposal {s : State} {number : Nat} {b : OpenBallot} (h : s.openNumbered number = some b) :
    s.ballot.slot.proposal? = some b.proposal := by
  unfold State.openNumbered at h
  split at h
  · next c slot =>
    split at h
    · cases h
      rw [slot]
      rfl
    · cases h
  · cases h
  · cases h

theorem sameClock_takeRetract (bs : List Byte) : s.SameClock (s.takeRetract a bs).1 := by
  unfold State.takeRetract
  split
  · exact .refl s
  · split
    · exact .refl s
    · exact s.sameClock_failBallot _ _ _

end State

/-! ## CLOSE and VOTE -/

theorem LegalTime.takeClose {s : State} (h : LegalTime s) (a : Agent) (bs : List Byte) :
    LegalTime (s.takeClose a bs).1 := by
  unfold State.takeClose
  split
  · exact h.tearDownNow a .closed rfl
  · unfold State.takeCloseAtBoundary
    dsimp only
    split
    · refine LegalTime.of_sameClock ?_ (State.sameClock_leaveBallot _ _ a)
      exact h.of_sameClock (.of_eq rfl rfl rfl)
    · exact h.tearDownNow a .closed rfl
  · exact h

theorem LegalTime.takeVote {s : State} (h : LegalTime s) (a : Agent) (bs : List Byte) :
    LegalTime (s.takeVote a bs).1 := by
  unfold State.takeVote
  dsimp only
  split
  · exact h
  · split
    · exact h
    · next b named =>
      have stands := State.openNumbered_proposal named
      unfold State.voteOn State.acceptVote
      repeat' split
      · exact h
      · exact h
      · refine LegalTime.applyIfIdle (h.of_sameClock (State.sameClock_holdOrPass _ ?_))
        exact stands
      · exact h.of_sameClock (s.sameClock_failBallot _ b _)

/-! ## PROPOSE (R135, R136) -/

theorem byteAt_le (bs : List Byte) (i : Nat) : byteAt bs i ≤ 255 :=
  Nat.le_of_lt_succ (bs.getD i 0).isLt

theorem halfAt_le (bs : List Byte) (i : Nat) : halfAt bs i ≤ 65535 := by
  have high := byteAt_le bs i
  have low := byteAt_le bs (i + 1)
  unfold halfAt
  omega

/-- A property of the value in force and of the value proposed is one of the resulting value. -/
theorem getD_whenPresent {α : Type} {P : α → Prop} (b : Bool) {x y : α} (old : P y) (new : b = true → P x) :
    P ((whenPresent b x).getD y) := by
  cases b
  · exact old
  · exact new rfl

/-- A record that the checks of rule 1 to rule 4 pass leads to legal settings. -/
theorem Settings.Legal.updated_of_settingFault {s : State} (h : s.settings.Legal) {r : List Byte}
    (passes : s.settingFault r = none) : (s.settings.updated (proposalOf r)).Legal := by
  unfold State.settingFault at passes
  split at passes
  · cases passes
  split at passes
  · cases passes
  next inRange =>
  dsimp only at passes
  split at passes
  · cases passes
  next sourced =>
  split at passes
  · cases passes
  next quotaSum =>
  have checks : ∀ x ∈ rangeChecks r, x.1 = false := by
    simpa [rangeFault, List.find?_eq_none] using inRange
  simp only [rangeChecks, List.forall_mem_cons, Bool.and_eq_false_imp, decide_eq_false_iff_not, Bool.or_eq_false_iff,
    not_lt] at checks
  obtain ⟨period, divider, -, -, -, timingFilter, -⟩ := checks
  constructor
  case period =>
    refine getD_whenPresent (P := fun k => 2 ≤ k ∧ k ≤ 65536) _ h.period fun present => ⟨period present, ?_⟩
    have := halfAt_le r 5
    unfold periodAt
    split <;> omega
  case divider => exact getD_whenPresent (P := fun k => 1 ≤ k ∧ k ≤ 4096) _ h.divider divider
  case budget => exact getD_whenPresent (P := (· ≤ 65535)) _ h.budget fun _ => halfAt_le r 11
  case timingFilter => exact getD_whenPresent (P := (· ≤ 15)) _ h.timingFilter timingFilter
  case guard =>
    intro k
    simp only [Settings.updated, proposalOf, Bank.read_build]
    refine getD_whenPresent (P := fun x : PairSetup => x.guard ≤ 1023) _ (h.guard k) fun _ => ?_
    exact Nat.le_of_lt_succ (Nat.mod_lt _ (by decide))
  case quotaSum => exact not_lt.1 quotaSum
  case sourced => simpa using sourced

/-- An accepted proposal stands, or is applied in the same event (R140). -/
theorem LegalTime.acceptProposal {s : State} (h : LegalTime s) {b : OpenBallot}
    (legal : (s.settings.updated b.proposal).Legal) : LegalTime (s.acceptProposal b) := by
  have opened : LegalTime (s.openSlot b) :=
    { settings := h.settings
      proposal := fun p stands => by
        obtain rfl : b.proposal = p := by simpa [State.openSlot, Slot.proposal?] using stands
        exact legal
      count := h.count
      phase := h.phase
      idle := h.idle
      armed := h.armed
      held := h.held }
  unfold State.acceptProposal
  dsimp only
  split
  · exact (opened.of_sameClock (State.sameClock_passBallot _ rfl)).applyIfIdle
  · exact opened.of_sameClock (.of_served (State.served_notifyEach _ _ _ _))

theorem LegalTime.takePropose {s : State} (h : LegalTime s) (a : Agent) (bs : List Byte) :
    LegalTime (s.takePropose a bs).1 := by
  unfold State.takePropose State.proposeOnEmpty
  dsimp only
  split
  · exact h
  split
  · exact h
  split
  · exact h
  next passes =>
  split
  · exact h
  split
  · exact h
  split
  · exact h
  · exact h.acceptProposal (h.settings.updated_of_settingFault passes)

/-! ## Every command -/

theorem LegalTime.take {s : State} (h : LegalTime s) (a : Agent) (bs : List Byte) (c : Command) :
    LegalTime (s.take a bs c).1 := by
  cases c
  case close => exact h.takeClose a bs
  case propose => exact h.takePropose a bs
  case vote => exact h.takeVote a bs
  case openSession => exact h.of_sameClock (s.sameClock_takeOpen a bs)
  case renew => exact h.of_sameClock (s.sameClock_takeRenew a bs)
  case reserve => exact h.of_sameClock (s.sameClock_takeReserve a bs)
  case release => exact h.of_sameClock (s.sameClock_takeRelease a bs)
  case stageEntry => exact h.of_sameClock (s.sameClock_takeStage a bs)
  case amendEntry => exact h.of_sameClock (s.sameClock_takeAmend a bs)
  case withdrawEntry => exact h.of_sameClock (s.sameClock_takeWithdraw a bs)
  case clearStaging => exact h.of_sameClock (s.sameClock_takeClear a)
  case readStaged => exact h.of_sameClock (s.sameClock_takeReadStaged a bs)
  case readActive => exact h.of_sameClock (s.sameClock_takeReadActive bs)
  case commit => exact h.of_sameClock (s.sameClock_takeCommit a)
  case abandon => exact h.of_sameClock (s.sameClock_takeAbandon a)
  case forceLine => exact h.of_sameClock (s.sameClock_takeForce a bs)
  case unforceLine => exact h.of_sameClock (s.sameClock_takeUnforce a bs)
  case setSense => exact h.of_sameClock (s.sameClock_takeSetSense a bs)
  case armSense => exact h.of_sameClock (s.sameClock_takeArming a bs .arm)
  case disarmSense => exact h.of_sameClock (s.sameClock_takeArming a bs .disarm)
  case readCaptures => exact h.of_sameClock (s.sameClock_takeReadCaptures a bs)
  case readNotices => exact h.of_sameClock (s.sameClock_takeReadNotices a bs)
  case retract => exact h.of_sameClock (s.sameClock_takeRetract a bs)
  case status => exact h
  case readSettings => exact h
  case readBallot => exact h

end Sys2Proof.Machine
end

section
/-! SUPPORT. Every step keeps the legal values of the settings and the time base (O6): ports, resets, events and the
REFCLK period, and then each row. -/

namespace Sys2Proof.Machine

/-! ## A command-frame row -/

/-- Every command-frame row is its frame taken on its port. -/
theorem exec_frame {i : Instr} {f : Frame} (row : i.frame? = some f) (s : State) :
    exec i s = .next (s.takeFrame f.port f.code f.tag f.payload) := by
  cases i <;> cases row <;> rfl

/-! ## Ports and resets -/

namespace State

variable (s : State) (p : Agent)

theorem sameClock_setPort (x : Port) : s.SameClock (s.setPort p x) := .of_eq rfl rfl rfl

theorem sameClock_samplePort : s.SameClock (s.samplePort p) := by
  unfold State.samplePort
  dsimp only
  split
  · exact s.sameClock_setPort p _
  · split
    · exact .refl s
    · exact s.sameClock_setPort p _

theorem sameClock_selectPort : s.SameClock (s.selectPort p) := by
  unfold State.selectPort
  split <;> exact s.sameClock_setPort p _

theorem sameClock_deselectPort : s.SameClock (s.deselectPort p) := by
  unfold State.deselectPort
  split <;> exact s.sameClock_setPort p _

theorem sameClock_releaseReset : s.SameClock s.releaseReset := by
  unfold State.releaseReset
  split
  · exact .of_eq rfl rfl rfl
  · exact .refl s

end State

theorem LegalTime.samplePorts {s : State} (h : LegalTime s) : LegalTime s.samplePorts :=
  List.foldlRecOn _ _ h fun t k p _ => k.of_sameClock (t.sameClock_samplePort p)

theorem LegalTime.deliverFrame {s : State} (h : LegalTime s) (p : Agent) (code tag : Byte) (bs : List Byte) :
    LegalTime (s.deliverFrame p code tag bs) := by
  have settled : LegalTime (s.settle p) := h.of_sameClock (s.sameClock_setPort p _)
  unfold State.deliverFrame
  dsimp only
  split
  · exact settled.of_sameClock (State.sameClock_setPort _ p _)
  split
  · exact settled.of_sameClock (State.sameClock_setPort _ p _)
  · have renewed : LegalTime ((s.settle p).renewLease p) := settled.of_sameClock (.of_eq rfl rfl rfl)
    have answered : LegalTime (((s.settle p).renewLease p).answer p code bs).1 := by
      unfold State.answer
      split
      · exact renewed
      · split
        · exact renewed.take p bs _
        · exact renewed
    exact answered.of_sameClock (State.sameClock_setPort _ p _)

theorem LegalTime.takeFrame {s : State} (h : LegalTime s) (p : Agent) (code tag : Byte) (bs : List Byte) :
    LegalTime (s.takeFrame p code tag bs) := by
  have sampled : LegalTime (s.samplePort p) := h.of_sameClock (s.sameClock_samplePort p)
  unfold State.takeFrame State.offerFrame
  split
  · split
    · exact sampled.deliverFrame p code tag bs
    · exact sampled
  · exact h

theorem LegalTime.useByte {s : State} (h : LegalTime s) (p : Agent) (v : Byte) : LegalTime (s.useByte p v) := by
  unfold State.useByte
  split
  · exact (h.of_sameClock (s.sameClock_setPort p _)).resetSession p
  · exact h.of_sameClock (s.sameClock_setPort p _)

theorem LegalTime.transactionByte {s : State} (h : LegalTime s) (p : Agent) (v : Byte) :
    LegalTime (s.transactionByte p v) := by
  have sampled : LegalTime (s.samplePort p) := h.of_sameClock (s.sameClock_samplePort p)
  unfold State.transactionByte State.chooseAction
  split
  · split
    · exact (sampled.of_sameClock (State.sameClock_setPort _ p _)).useByte p v
    · exact sampled
  · exact h

theorem LegalTime.receiveByte {s : State} (h : LegalTime s) (p : Agent) (frame : List Byte) (v : Byte) :
    LegalTime (s.receiveByte p frame v) := by
  unfold State.receiveByte
  dsimp only
  split
  · exact h.of_sameClock (s.sameClock_setPort p _)
  split
  · exact h.of_sameClock (.of_eq rfl rfl rfl)
  split
  · exact h.of_sameClock (s.sameClock_setPort p _)
  · exact (h.of_sameClock (s.sameClock_setPort p _)).deliverFrame p _ _ _

theorem LegalTime.moveByte {s : State} (h : LegalTime s) (p : Agent) (v : Byte) : LegalTime (s.moveByte p v) := by
  unfold State.moveByte
  cases (s.port p).transaction with
  | idle => exact h
  | ignored => exact h
  | status b => exact h.of_sameClock (s.sameClock_setPort p _)
  | command => exact h.useByte p v
  | receiving frame => exact h.receiveByte p frame v
  | sending k => exact h.of_sameClock (s.sameClock_setPort p _)
  | marker k => exact h.of_sameClock (s.sameClock_setPort p _)
  | done => exact h.of_sameClock (s.sameClock_setPort p _)

theorem LegalTime.shiftByte {s : State} (h : LegalTime s) (p : Agent) (v : Byte) : LegalTime (s.shiftByte p v) := by
  unfold State.shiftByte
  split
  · exact (h.of_sameClock (s.sameClock_samplePort p)).moveByte p v
  · exact h

/-- Right after reset the values are legal. -/
theorem legalTime_reset : LegalTime State.reset := by
  have settings : Settings.reset.Legal :=
    { period := by decide
      divider := by decide
      budget := by decide
      timingFilter := by decide
      guard := by decide
      quotaSum := by decide
      sourced := rfl }
  refine LegalTime.of_origin settings ?_ rfl rfl (fun _ => ⟨rfl, rfl, rfl⟩) ?_ ?_
  · intro p stands
    cases stands
  · intro armed
    cases armed
  · intro held
    cases held

/-! ## Events and the REFCLK period -/

/-- What each event that is taken keeps, events taken one after another keep. -/
theorem takeAll_keeps {P : State → Prop} {take : Event → State → State} (untaken : State → List Event)
    (free : ∀ s k, P s → P (State.withFreeCount s k)) (h : ∀ e s, P s → P (take e s)) (fuel : Nat) {s : State}
    (hs : P s) : P (takeAll take untaken fuel s) := by
  induction fuel generalizing s with
  | zero => exact hs
  | succ fuel ih =>
    unfold takeAll
    split
    · exact hs
    · exact ih (h _ s hs)
    · exact ih (h _ _ (free s _ hs))

theorem LegalTime.withFreeCount {s : State} (h : LegalTime s) (k : Nat) : LegalTime (s.withFreeCount k) :=
  h.of_sameClock (.of_eq rfl rfl rfl)

theorem LegalTime.expire {s : State} (h : LegalTime s) (e : Event) : LegalTime (s.expire e) := by
  cases e
  case leaseExpiry a => exact h.expireLease a
  case deadlineExpiry => exact h.of_sameClock s.sameClock_expireDeadline
  all_goals exact h

theorem LegalTime.advanceLease {s : State} (h : LegalTime s) : LegalTime s.advanceLease := by
  have taken : LegalTime s.takeExpiries :=
    takeAll_keeps State.expiries (fun _ k h => h.withFreeCount k) (fun e _ h => h.expire e) 5 h
  exact taken.of_sameClock s.takeExpiries.sameClock_lowerLeases

/-- What is left alone before an operation may be left alone with it. -/
theorem State.SameClock.after {s t u : State} (h : t.SameClock u) (settings : t.settings = s.settings)
    (time : t.time = s.time) (ballot : t.ballot = s.ballot) : s.SameClock u :=
  .trans (.of_eq settings time ballot) h

theorem State.sameClock_takeEdge (s : State) (i : Sense) (e : Edge) : s.SameClock (s.takeEdge i e) := by
  unfold State.takeEdge
  dsimp only
  split
  · exact .of_eq rfl rfl rfl
  · split
    · split
      · exact .of_eq rfl rfl rfl
      · exact .after (.of_served (State.served_makeRecord _ _ _ _)) rfl rfl rfl
    · exact .of_eq rfl rfl rfl

theorem LegalTime.takeEvent {s : State} (h : LegalTime s) (e : Event) : LegalTime (s.takeEvent e) := by
  have fewer : LegalTime { s with arisen := s.arisen.filter fun f => f != e } := h.of_sameClock (.of_eq rfl rfl rfl)
  unfold State.takeEvent
  cases e
  case countAdvance => exact fewer.advanceCount
  case triggerEdge => exact fewer.takeTriggerEdge
  case gateChange level => exact fewer.takeGateChange level
  case captureEdge i edge => exact fewer.of_sameClock (State.sameClock_takeEdge _ i edge)
  case leaseClockAdvance => exact fewer.advanceLease
  case leaseExpiry a => exact fewer.expireLease a
  case deadlineExpiry => exact fewer.of_sameClock (State.sameClock_expireDeadline _)

/-- Where a count advance would be due, the phase waits for it (log entry 12). -/
theorem LegalTime.tickDivider {s : State} (h : LegalTime s) : LegalTime s.tickDivider := by
  unfold State.tickDivider
  split
  · next run =>
    split
    · next inside => exact h.setTime_running run h.count inside
    · exact h.of_sameClock (.of_eq rfl rfl rfl)
  · exact h

theorem State.sameClock_tickLease (s : State) : s.SameClock s.tickLease := by
  unfold State.tickLease
  split
  · exact ⟨rfl, rfl, fun _ h => h⟩
  · exact .of_eq rfl rfl rfl

theorem State.sameClock_sampleLines (s : State) (levels : Bank Level 8) : s.SameClock (s.sampleLines levels) :=
  ⟨rfl, rfl, fun _ h => h⟩

theorem LegalTime.refclkPeriod {s : State} (h : LegalTime s) (levels : Bank Level 8) :
    LegalTime (s.refclkPeriod levels) := by
  have left : LegalTime s.takeLeft :=
    takeAll_keeps State.untaken (fun _ k h => h.withFreeCount k) (fun e _ h => h.takeEvent e) _ h
  have sampled : LegalTime (s.takeLeft.samplePorts.sampleLines levels) :=
    left.samplePorts.of_sameClock (State.sameClock_sampleLines _ levels)
  unfold State.refclkPeriod
  split
  · exact sampled.tickDivider.of_sameClock (State.sameClock_tickLease _)
  · exact h

theorem LegalTime.runOutBudget {s : State} (h : LegalTime s) : LegalTime s.runOutBudget := by
  by_cases out : s.time.run = .running ∧ s.time.budgetRemaining = 1
  · obtain ⟨run, budget⟩ := out
    rcases Nat.lt_or_ge (s.time.count + 1) s.settings.period with inside | last
    · by_cases mode : s.settings.mode = .restart
      · rw [s.runOutBudget_early run budget inside mode]
        exact h.boundary false
      · rwa [State.runOutBudget, if_pos ⟨run, budget⟩, if_neg (not_le.2 inside), if_neg mode]
    · rw [s.runOutBudget_normal run budget last]
      exact (h.setTime_running (t := s.time.unphased) run h.count h.settings.divider.1).boundary true
  · rwa [s.runOutBudget_none out]

theorem State.sameClock_endPulse (s : State) (d : Drive) : s.SameClock (s.endPulse d) := by
  unfold State.endPulse
  split
  · exact .of_eq rfl rfl rfl
  · exact .refl s

theorem State.sameClock_endGuard (s : State) (d : Drive) : s.SameClock (s.endGuard d) := by
  unfold State.endGuard
  split
  · exact .of_eq rfl rfl rfl
  · exact .refl s

/-! ## Every row -/

/-- The effect of a row that waits for the part to be live. -/
theorem LegalTime.ite_live {s t : State} (h : LegalTime s) (k : LegalTime t) :
    LegalTime (if s.live then t else s) := by
  split
  · exact k
  · exact h

theorem LegalTime.exec_frame {s t : State} (h : LegalTime s) {i : Instr} {f : Frame} (frame : i.frame? = some f)
    (row : exec i s = .next t) : LegalTime t := by
  rw [Machine.exec_frame frame] at row
  cases row
  exact h.takeFrame _ _ _ _

theorem LegalTime.exec {s t : State} (h : LegalTime s) {i : Instr} (row : exec i s = .next t) : LegalTime t := by
  cases i
  case transactionStart p =>
    cases row
    exact h.of_sameClock (s.sameClock_selectPort p)
  case send p =>
    cases row
    exact h.transactionByte p _
  case fetch p =>
    cases row
    exact h.transactionByte p _
  case peek p v =>
    cases row
    exact h.transactionByte p v
  case portReset p =>
    cases row
    exact h.transactionByte p _
  case transactionEnd p =>
    cases row
    exact h.of_sameClock (s.sameClock_deselectPort p)
  case deviceReset =>
    cases row
    exact legalTime_reset.of_sameClock (.of_eq rfl rfl rfl)
  case resetRelease =>
    cases row
    exact h.of_sameClock s.sameClock_releaseReset
  case refclkStop =>
    cases row
    exact h.of_sameClock (.of_eq rfl rfl rfl)
  case refclkResume =>
    cases row
    exact h.of_sameClock (.of_eq rfl rfl rfl)
  case countAdvance =>
    cases row
    exact h.ite_live (h.takeEvent _)
  case pulseEnd d =>
    cases row
    exact h.ite_live (h.of_sameClock (s.sameClock_endPulse d))
  case guardEnd d =>
    cases row
    exact h.ite_live (h.of_sameClock (s.sameClock_endGuard d))
  case budgetRunOut =>
    cases row
    exact h.ite_live h.runOutBudget
  case triggerEdge =>
    cases row
    exact h.ite_live (h.takeEvent _)
  case gateChange level =>
    cases row
    exact h.ite_live (h.takeEvent _)
  case captureEdge i e =>
    cases row
    exact h.ite_live (h.takeEvent _)
  case leaseClockAdvance =>
    cases row
    exact h.ite_live (h.takeEvent _)
  case leaseExpiry a =>
    cases row
    exact h.ite_live (h.takeEvent _)
  case deadlineExpiry =>
    cases row
    exact h.ite_live (h.takeEvent _)
  case refclkPeriod levels =>
    cases row
    exact h.refclkPeriod levels
  case byteShifted p v =>
    cases row
    exact h.shiftByte p v
  all_goals exact h.exec_frame rfl row

/-- Settles O6: the row at the front of the queue keeps the legal values, and so does idling. -/
theorem stepKeepsLegalTime : Obligations.StepKeepsLegalTime := by
  unfold Obligations.StepKeepsLegalTime
  intro s t h stepped
  unfold step at stepped
  split at stepped
  · cases stepped
    exact h
  · next c rest _ =>
    have popped : LegalTime { s with pending := rest } := h.of_sameClock (.of_eq rfl rfl rfl)
    exact popped.exec stepped

end Sys2Proof.Machine
end

section
/-! SUPPORT. The part asleep, the lease clock, and what stands right after reset (O13, O23, O3). -/

namespace Sys2Proof.Machine

/-! ## While REFCLK is stopped or RESET_N is low (R19, R170) -/

section

variable {s : State} (asleep : s.live = false) (p : Agent)
include asleep

theorem State.takeFrame_asleep (code tag : Byte) (bs : List Byte) : s.takeFrame p code tag bs = s := by
  simp [State.takeFrame, asleep]

theorem State.transactionByte_asleep (v : Byte) : s.transactionByte p v = s := by
  simp [State.transactionByte, asleep]

theorem State.shiftByte_asleep (v : Byte) : s.shiftByte p v = s := by
  simp [State.shiftByte, asleep]

theorem State.refclkPeriod_asleep (levels : Bank Level 8) : s.refclkPeriod levels = s := by
  simp [State.refclkPeriod, asleep]

theorem State.ite_asleep (t : State) : (if s.live then t else s) = s := by
  simp [asleep]

/-- A row that waits for REFCLK takes nothing. -/
theorem exec_asleep {i : Instr} (waits : i.outside = false) : exec i s = .next s := by
  cases i
  case transactionStart | transactionEnd | deviceReset | resetRelease | refclkStop | refclkResume => cases waits
  case send p => exact congrArg _ (State.transactionByte_asleep asleep p _)
  case fetch p => exact congrArg _ (State.transactionByte_asleep asleep p _)
  case peek p v => exact congrArg _ (State.transactionByte_asleep asleep p v)
  case portReset p => exact congrArg _ (State.transactionByte_asleep asleep p _)
  case byteShifted p v => exact congrArg _ (State.shiftByte_asleep asleep p v)
  case refclkPeriod levels => exact congrArg _ (State.refclkPeriod_asleep asleep levels)
  case countAdvance | pulseEnd | guardEnd | budgetRunOut | triggerEdge | gateChange | captureEdge | leaseClockAdvance
      | leaseExpiry | deadlineExpiry => exact congrArg _ (State.ite_asleep asleep _)
  all_goals
    rw [exec_frame rfl]
    exact congrArg _ (State.takeFrame_asleep asleep _ _ _ _)

end

/-- Settles O13: every row that waits for REFCLK finds the part asleep, and a pin's row changes the pin. -/
theorem sleepingPartTakesNothing : Obligations.SleepingPartTakesNothing := by
  unfold Obligations.SleepingPartTakesNothing
  refine ⟨fun s asleep => ⟨fun i waits => exec_asleep asleep waits, fun p => ⟨?_, ?_⟩⟩, fun s => ⟨rfl, rfl⟩⟩
  · simp only [exec, execTransactionStart, State.selectPort, asleep, Bool.false_eq_true, if_false]
  · simp only [exec, execTransactionEnd, State.deselectPort, asleep, Bool.false_eq_true, if_false]

/-! ## The lease clock (R18, R24) -/

theorem State.takeExpiries_nothing {s : State} (h : s.expiries = []) : s.takeExpiries = s := by
  simp [State.takeExpiries, takeAll, h]

/-- Settles O23: where no expiry stands, an advance is the lowering alone. -/
theorem leaseClockAdvanceLowersLeases : Obligations.LeaseClockAdvanceLowersLeases := by
  unfold Obligations.LeaseClockAdvanceLowersLeases
  refine ⟨fun s live => State.exec_row live .leaseClockAdvance, fun s live nothing => ?_⟩
  have calm : ({ s with arisen := s.arisen.filter fun e => e != Event.leaseClockAdvance } : State).expiries = [] :=
    nothing
  rw [show exec .leaseClockAdvance s = _ from State.exec_row live .leaseClockAdvance]
  show Host.Outcome.next (State.lowerLeases (State.takeExpiries { s with arisen := _ })) = _
  rw [State.takeExpiries_nothing calm]
  unfold State.lowerLeases
  cases slot : s.ballot.slot with
  | empty =>
    have kept : ({ s.ballot with slot := .empty } : Ballot) = s.ballot := by rw [← slot]
    simp only [Slot.lowerDeadline, kept]
    rfl
  | openSlot b =>
    simp only [Slot.lowerDeadline]
    rfl
  | passed a p =>
    have kept : ({ s.ballot with slot := .passed a p } : Ballot) = s.ballot := by rw [← slot]
    simp only [Slot.lowerDeadline, kept]
    rfl

/-! ## Right after reset (R170) -/

@[simp] theorem State.reset_session (a : Agent) : State.reset.session a = .vacant .closed 0 := Bank.read_fill _ a

@[simp] theorem State.reset_port (p : Agent) : State.reset.port p = .reset := Bank.read_fill _ p

@[simp] theorem State.reset_line (d : Drive) : State.reset.line d = .idle := Bank.read_fill _ d

@[simp] theorem State.reset_driveOwner (d : Drive) : State.reset.driveOwner.read d = none := Bank.read_fill _ d

@[simp] theorem State.reset_senseOwner (i : Sense) : State.reset.senseOwner.read i = none := Bank.read_fill _ i

/-- No proposal stands after reset. -/
theorem State.reset_proposal {p : Proposal} : State.reset.ballot.slot.proposal? ≠ some p := by
  intro stands
  cases stands

/-- No pair is interlocked after reset. -/
theorem interlocked_reset (d : Drive) : ¬ interlocked State.reset.settings d = true := by
  simp [interlocked, State.reset, Settings.reset]

theorem queuesFit_reset : QueuesFit State.reset := by
  constructor <;> simp [Port.reset, Session.vacant]

theorem coherent_reset : Coherent State.reset where
  driveOwners := by simp
  senseOwners := by simp
  ended a _ := by
    rw [State.reset_session]
    exact ⟨rfl, rfl, rfl, rfl, rfl, rfl⟩
  stagedLines := by simp [Session.vacant]
  activeLines := by simp [Session.vacant]
  unownedIdle d _ := State.reset_line d
  lockedUnowned d _ := State.reset_driveOwner d
  pairOwner d linked := absurd linked (interlocked_reset d)
  interlock d linked := absurd linked (interlocked_reset d)

theorem timetableFits_reset : TimetableFits State.reset where
  staged a := by
    rw [State.reset_session]
    exact ⟨by simp [Session.vacant], .nil, .nil⟩
  active a := by
    rw [State.reset_session]
    exact ⟨by simp [Session.vacant], .nil, .nil⟩
  offsets := by simp [Session.vacant]
  proposedOffsets p k stands := absurd stands State.reset_proposal
  counts := by simp [Session.vacant]
  proposedCounts p a k stands := absurd stands State.reset_proposal
  quota := by simp [State.reset, Settings.reset]
  proposedQuota p a k stands := absurd stands State.reset_proposal

theorem linesFit_reset : LinesFit State.reset := by
  constructor <;> simp [DriveLine.idle]

/-- Settles O3: after reset every queue, line and slot is empty, and the settings are those of R135. -/
theorem resetSatisfiesInvariants : Obligations.ResetSatisfiesInvariants :=
  ⟨queuesFit_reset, coherent_reset, legalTime_reset, timetableFits_reset, linesFit_reset⟩

end Sys2Proof.Machine
end

section
/-! SUPPORT. The agent port layer: a row on a port whose pin has changed unseen is the row after that change is sampled
(R19); frames that reach no owning block (O12), and the transaction itself (O58). -/

namespace Sys2Proof.Machine

/-! ## SELn_N is sampled before any row (R19; log entry 13) -/

section

variable {s : State} {p : Agent} (live : s.live = true)
include live

theorem State.samplePort_live : (s.samplePort p).live = true := by
  unfold State.samplePort
  dsimp only
  split
  · exact live
  · split <;> exact live

theorem State.takeFrame_samplePort (code tag : Byte) (bs : List Byte) :
    s.takeFrame p code tag bs = (s.samplePort p).takeFrame p code tag bs := by
  simp [State.takeFrame, live, State.samplePort_live live, State.samplePort_twice]

theorem State.transactionByte_samplePort (v : Byte) :
    s.transactionByte p v = (s.samplePort p).transactionByte p v := by
  simp [State.transactionByte, live, State.samplePort_live live, State.samplePort_twice]

theorem State.shiftByte_samplePort (v : Byte) : s.shiftByte p v = (s.samplePort p).shiftByte p v := by
  simp [State.shiftByte, live, State.samplePort_live live, State.samplePort_twice]

theorem exec_transactionStart :
    exec (.transactionStart p) s = .next (s.setPort p ((s.port p).start (s.attention p))) := by
  simp only [exec, execTransactionStart, State.selectPort, live, if_true]

theorem exec_transactionEnd : exec (.transactionEnd p) s = .next (s.setPort p (s.port p).finish) := by
  simp only [exec, execTransactionEnd, State.deselectPort, live, if_true]

/-- TRANSACTION_END on a port whose rise is unseen is that rise sampled. -/
theorem State.samplePort_of_transactionEnd (pin : (s.port p).selected = false)
    (stands : (s.port p).transaction ≠ .idle) {u : State} (ended : exec (.transactionEnd p) s = .next u) :
    s.samplePort p = u := by
  rw [exec_transactionEnd live] at ended
  cases ended
  exact State.samplePort_rise pin stands

/-- TRANSACTION_START on a port whose fall is unseen is that fall sampled. -/
theorem State.samplePort_of_transactionStart (pin : (s.port p).selected = true) {u : State}
    (started : exec (.transactionStart p) s = .next u) : s.samplePort p = u := by
  rw [exec_transactionStart live] at started
  cases started
  exact State.samplePort_fall pin

/-- Every row of a transaction on a port is that row once SELn_N has been sampled. -/
theorem exec_samplePort {u : State} (sampled : s.samplePort p = u) :
    (∀ v, exec (.byteShifted p v) s = exec (.byteShifted p v) u ∧ exec (.peek p v) s = exec (.peek p v) u)
    ∧ exec (.send p) s = exec (.send p) u ∧ exec (.fetch p) s = exec (.fetch p) u
    ∧ exec (.portReset p) s = exec (.portReset p) u := by
  subst sampled
  have shifted (v : Byte) : exec (.byteShifted p v) s = exec (.byteShifted p v) (s.samplePort p) :=
    congrArg Host.Outcome.next (State.shiftByte_samplePort live v)
  have taken (v : Byte) : exec (.peek p v) s = exec (.peek p v) (s.samplePort p) :=
    congrArg Host.Outcome.next (State.transactionByte_samplePort live v)
  exact ⟨fun v => ⟨shifted v, taken v⟩, taken 0xA5, taken 0x5A, taken 0xC3⟩

theorem exec_frame_samplePort {i : Instr} {f : Frame} (frame : i.frame? = some f) {u : State}
    (sampled : s.samplePort f.port = u) : exec i s = exec i u := by
  rw [exec_frame frame, exec_frame frame, ← sampled, ← State.takeFrame_samplePort live]

end

/-! ## Frames that reach no owning block (R163, R165, R166) -/

theorem Command.ofCode_of_not_command {code : Byte} (other : codeIsCommand code = false) :
    Command.ofCode code = none := by
  revert code
  decide

theorem frameRefusal_unknown {code : Byte} (other : codeIsCommand code = false) (bs : List Byte) (q : SessionState) :
    frameRefusal code bs q = some .unknownCommand := by
  rw [frameRefusal, Command.ofCode_of_not_command other]

/-- A frame that meets a full queue is discarded (R165). -/
theorem State.Full.takeFrame_eq {s : State} {p : Agent} (h : s.Full p) (code tag : Byte) {bs : List Byte}
    (fits : bs.length ≤ 60) : s.takeFrame p code tag bs =
      s.setPort p { s.port p with transaction := (s.port p).transaction.settled, error := .portFull } := by
  have within : ¬ Config.payloadLimit < bs.length := not_lt.2 fits
  have full : Config.responseCapacity ≤ (s.port p).responses.length := h.full
  rw [State.takeFrame_seen code tag bs h.live h.seen, State.offerFrame, if_pos h.listening, State.deliverFrame]
  simp only [if_neg within, if_pos full, State.latch, State.settle, State.port_setPort, if_true, State.setPort_setPort]

theorem Transaction.settled_eq (x : Transaction) :
    x.settled = if x = .idle then .idle else if x = .ignored then .ignored else .done := by
  cases x <;> rfl

theorem State.port_answered (s : State) (p : Agent) (r : Response) : (s.answered p r).port p =
    { s.port p with
      transaction := (s.port p).transaction.settled
      responses := (s.port p).responses ++ [r] } := by
  simp [State.answered, State.respond, State.settle]

/-- Settles O12: each of these frames is the one operation of its lemma on the port that it comes to. -/
theorem framesAreRefusedDiscardedOrIgnored : Obligations.FramesAreRefusedDiscardedOrIgnored := by
  unfold Obligations.FramesAreRefusedDiscardedOrIgnored
  refine ⟨fun i f status s frame accepts fits refused => ?_, fun p code tag bs s accepts fits other => ?_,
    fun i f s frame full fits => ?_, fun i f s frame pin past => ?_, fun i f s u frame live => ⟨?_, ?_⟩,
    fun s p r => ?_⟩
  · rw [exec_frame frame, State.takeFrame_refused f.tag accepts fits refused]
  · rw [exec_frame rfl, State.takeFrame_refused tag accepts fits (frameRefusal_unknown other _ _)]
  · rw [exec_frame frame, full.takeFrame_eq f.code f.tag fits]
  · rw [exec_frame frame, State.takeFrame_past f.code f.tag f.payload pin]
    rcases past with done | ignored | ⟨k, sending⟩ | ⟨k, marker⟩
    · rw [done]; rfl
    · rw [ignored]; rfl
    · rw [sending]; rfl
    · rw [marker]; rfl
  · exact fun pin stands ended =>
      exec_frame_samplePort live frame (State.samplePort_of_transactionEnd live pin stands ended)
  · exact fun pin _ started =>
      exec_frame_samplePort live frame (State.samplePort_of_transactionStart live pin started)
  · rw [State.port_answered, Transaction.settled_eq]

/-! ## The status byte and the transaction byte (R162, R163, R167) -/

theorem State.statusByte_eq (s : State) (p : Agent) : statusByte (s.attention p) (s.port p) =
    BitVec.ofNat 8 ((if (s.session p).notices = [] then 0 else 128) + 16 * (s.port p).responses.length
      + (s.port p).error.code) := by
  cases notices : (s.session p).notices <;> simp [statusByte, byte, State.attention, notices]

/-- A status byte carries the error that was latched when it was formed. -/
theorem statusCarries_statusByte (attention : Bool) (x : Port) :
    statusCarries (statusByte attention x) x.error = true := by
  have small : x.error.code ≤ 4 := by cases x.error <;> decide
  simp only [statusCarries, statusByte, byte, BitVec.toNat_ofNat, beq_iff_eq]
  split <;> omega

section

variable {s : State} {p : Agent} (live : s.live = true)
include live

/-- Past its transaction byte, a port takes no transaction byte. -/
theorem State.transactionByte_past (pin : (s.port p).selected = true) (past : (s.port p).transaction = .done
      ∨ (s.port p).transaction = .ignored ∨ (∃ frame, (s.port p).transaction = .receiving frame)
      ∨ (∃ k, (s.port p).transaction = .sending k) ∨ ∃ k, (s.port p).transaction = .marker k) (v : Byte) :
    s.transactionByte p v = s := by
  obtain ⟨stands, none⟩ : (s.port p).transaction ≠ .idle ∧ (s.port p).toCommand (s.attention p) = none := by
    unfold Port.toCommand
    rcases past with h | h | ⟨frame, h⟩ | ⟨k, h⟩ | ⟨k, h⟩ <;> simp [h]
  rw [State.transactionByte_seen v live pin stands, State.chooseAction, none]

theorem State.transactionByte_command (pin : (s.port p).selected = true)
    (command : (s.port p).transaction = .command) (v : Byte) : s.transactionByte p v = s.useByte p v := by
  have comes : (s.port p).toCommand (s.attention p) = some (s.port p) := by rw [Port.toCommand, command]
  rw [State.transactionByte_seen v live pin (by simp [command]), State.chooseAction, comes]
  dsimp only
  rw [State.setPort_port]

/-- A port that comes to its transaction byte takes it as it does with the status byte out. -/
theorem State.transactionByte_of_toCommand (seen : s.samplePort p = s) {x : Port}
    (comes : (s.port p).toCommand (s.attention p) = some x) (pin : x.selected = true)
    (command : x.transaction = .command) (v : Byte) :
    s.transactionByte p v = (s.setPort p x).transactionByte p v := by
  have there : (s.setPort p x).port p = x := by simp
  rw [State.transactionByte_command (s := s.setPort p x) live (by rw [there]; exact pin) (by rw [there]; exact command),
    State.transactionByte, if_pos live, seen, State.chooseAction, comes]

end

/-- The four rows that are a transaction byte alone. -/
theorem exec_of_transactionByte {s u : State} {p : Agent} (same : ∀ v, s.transactionByte p v = u.transactionByte p v) :
    exec (.send p) s = exec (.send p) u ∧ exec (.fetch p) s = exec (.fetch p) u
    ∧ exec (.portReset p) s = exec (.portReset p) u ∧ ∀ v, exec (.peek p v) s = exec (.peek p v) u := by
  have taken (v : Byte) : exec (.peek p v) s = exec (.peek p v) u := congrArg Host.Outcome.next (same v)
  exact ⟨taken 0xA5, taken 0x5A, taken 0xC3, taken⟩

theorem Port.start_idle {x : Port} (idle : x.transaction = .idle) (attention : Bool) : x.start attention =
    { x with selected := true, transaction := .status (statusByte attention x), shiftedOut := none } := by
  rw [Port.start, if_pos idle]

theorem Port.start_stands {x : Port} (stands : x.transaction ≠ .idle) (attention : Bool) :
    x.start attention = { x with selected := true } := by
  rw [Port.start, if_neg stands]

theorem Port.finish_receiving {x : Port} {frame : List Byte} (h : x.transaction = .receiving frame) :
    x.finish = { x with selected := false, transaction := .idle, error := .truncated, shiftedOut := none } := by
  rw [Port.finish, h]

theorem Port.finish_other {x : Port} (h : ∀ frame, x.transaction ≠ .receiving frame) :
    x.finish = { x with selected := false, transaction := .idle, shiftedOut := none } := by
  unfold Port.finish
  split
  · next frame receiving => exact absurd receiving (h frame)
  all_goals rfl

theorem Port.statusOut_eq (b : Byte) (x : Port) : x.statusOut b =
    { x with
      transaction := .command
      error := if b.toNat % 16 = x.error.code then .none else x.error
      shiftedOut := some b } := by
  simp [Port.statusOut, statusCarries]

/-- Settles O58: each row is sampled, then comes to its byte, as the lemmas above say. -/
theorem transactionsBeginChooseAndEnd : Obligations.TransactionsBeginChooseAndEnd := by
  unfold Obligations.TransactionsBeginChooseAndEnd
  refine ⟨rfl, fun p s live => ⟨fun idle => ?_, fun stands => ?_, fun pin stands u ended => ?_,
    fun pin idle u started => ?_, fun pin past => ?_, fun b u pin status eq => ?_, fun u pin idle eq => ?_,
    fun pin command => ?_, fun other => ?_, fun frame receiving => ?_⟩⟩
  · rw [exec_transactionStart live, Port.start_idle idle, State.statusByte_eq]
  · rw [exec_transactionStart live, Port.start_stands stands]
  · exact exec_samplePort live (State.samplePort_of_transactionEnd live pin stands ended)
  · exact exec_samplePort live (State.samplePort_of_transactionStart live pin started)
  · have kept (v : Byte) : exec (.peek p v) s = .next s :=
      congrArg Host.Outcome.next (State.transactionByte_past live pin past v)
    exact ⟨kept 0xA5, kept 0x5A, kept 0xC3, kept⟩
  · subst eq
    rw [← Port.statusOut_eq]
    have stands : (s.port p).transaction ≠ .idle := by simp [status]
    have comes : (s.port p).toCommand (s.attention p) = some ((s.port p).statusOut b) := by
      rw [Port.toCommand, status]
    exact exec_of_transactionByte
      (State.transactionByte_of_toCommand live (State.samplePort_selected pin stands) comes pin rfl)
  · subst eq
    rw [← State.statusByte_eq]
    have comes : (s.port p).toCommand (s.attention p) =
        some { s.port p with
          selected := true, transaction := .command, error := .none
          shiftedOut := some (statusByte (s.attention p) (s.port p)) } := by
      simp only [Port.toCommand, idle, Port.statusOut, statusCarries_statusByte, if_true]
    exact exec_of_transactionByte
      (State.transactionByte_of_toCommand live (State.samplePort_idle pin idle) comes rfl rfl)
  · have taken (v : Byte) (other : v ≠ 0xC3) :
        exec (.peek p v) s = .next (s.setPort p ((s.port p).takeByte v)) := by
      show Host.Outcome.next (s.transactionByte p v) = _
      rw [State.transactionByte_command live pin command, State.useByte, if_neg other]
    refine ⟨taken 0xA5 (by decide), fun some => ?_, fun none => ?_, fun v notSend notFetch notReset => ?_⟩
    · refine (taken 0x5A (by decide)).trans ?_
      simp [Port.takeByte, some, filler]
    · refine (taken 0x5A (by decide)).trans ?_
      simp [Port.takeByte, none, filler]
    · rw [taken v notReset, Port.takeByte]
      simp only [if_neg notSend, if_neg notFetch]
      rfl
  · rw [exec_transactionEnd live, Port.finish_other other]
  · rw [exec_transactionEnd live, Port.finish_receiving receiving]

end Sys2Proof.Machine
end

section
/-! SUPPORT. The REFCLK period (O57): each port is sampled for itself, each line for itself, and the dividers
advance. -/

namespace Sys2Proof.Machine

/-! ## The ports are sampled each for itself (R19) -/

/-- A port after its SELn_N has been sampled. -/
def Port.sampled (attention : Bool) (x : Port) : Port :=
  if x.selected then x.start attention else if x.transaction = .idle then x else x.finish

/-- The port `p` after SELn_N has been sampled. -/
def State.sampledPort (s : State) (p : Agent) : Port := (s.port p).sampled (s.attention p)

theorem State.samplePort_eq (s : State) (p : Agent) : s.samplePort p = s.setPort p (s.sampledPort p) := by
  unfold State.samplePort State.sampledPort Port.sampled
  dsimp only
  split
  · rfl
  · split
    · exact (s.setPort_port p).symm
    · rfl

theorem State.sampledPort_setPort {p q : Agent} (other : q ≠ p) (s : State) (x : Port) :
    (s.setPort p x).sampledPort q = s.sampledPort q := by
  have same : (s.setPort p x).port q = s.port q := by rw [State.port_setPort, if_neg other]
  rw [State.sampledPort, State.sampledPort, same]
  rfl

theorem State.foldl_samplePort {ports : List Agent} (distinct : ports.Nodup) (s : State) :
    ports.foldl State.samplePort s =
      { s with ports := Bank.build fun p => if p ∈ ports then s.sampledPort p else s.port p } := by
  induction ports generalizing s with
  | nil =>
    have same : s.ports = Bank.build fun p => s.port p := Bank.ext_read fun p => by simp [State.port]
    simp [← same]
  | cons p ports ih =>
    obtain ⟨absent, distinct⟩ := List.nodup_cons.1 distinct
    rw [List.foldl_cons, ih distinct, State.samplePort_eq]
    have ports : (Bank.build fun q => if q ∈ ports then (s.setPort p (s.sampledPort p)).sampledPort q
          else (s.setPort p (s.sampledPort p)).port q)
        = Bank.build fun q => if q ∈ p :: ports then s.sampledPort q else s.port q := by
      congr 1
      funext q
      by_cases same : q = p
      · subst same
        simp [absent]
      · simp [same, State.sampledPort_setPort same]
    rw [ports]
    rfl

theorem State.samplePorts_eq (s : State) : s.samplePorts = { s with ports := Bank.build s.sampledPort } := by
  rw [State.samplePorts, State.foldl_samplePort (List.nodup_finRange 4)]
  simp

theorem Port.finish_eq (x : Port) : x.finish =
    { x with
      selected := false
      transaction := .idle
      error := if x.framing = .receiving then .truncated else x.error
      shiftedOut := none } := by
  unfold Port.finish Port.framing
  cases x.transaction <;> rfl

/-- What sampling changes: a fall not yet seen begins a transaction, and a rise ends one. -/
theorem Port.sampled_eq (attention : Bool) (x : Port) : x.sampled attention =
    if x.selected = true ∧ x.transaction = .idle then
      { x with transaction := .status (statusByte attention x), shiftedOut := none }
    else if x.selected = false ∧ x.transaction ≠ .idle then
      { x with
        transaction := .idle
        error := if x.framing = .receiving then .truncated else x.error
        shiftedOut := none }
    else x := by
  rw [Port.sampled, Port.finish_eq]
  obtain ⟨selected, transaction, responses, error, shiftedOut⟩ := x
  cases selected <;> by_cases idle : transaction = .idle <;> simp [Port.start, idle]

theorem Port.sampled_twice (attention : Bool) (x : Port) :
    (x.sampled attention).sampled attention = x.sampled attention := by
  cases pin : x.selected <;> by_cases idle : x.transaction = .idle <;>
    simp [Port.sampled, Port.start, Port.finish, pin, idle]

theorem State.samplePorts_twice (s : State) : s.samplePorts.samplePorts = s.samplePorts := by
  have again (p : Agent) :
      ({ s with ports := Bank.build s.sampledPort } : State).sampledPort p = s.sampledPort p := by
    have there : ({ s with ports := Bank.build s.sampledPort } : State).port p = s.sampledPort p := Bank.read_build _ p
    rw [State.sampledPort, there]
    exact Port.sampled_twice _ _
  rw [State.samplePorts_eq s, State.samplePorts_eq, funext again]

theorem State.samplePorts_build (s : State) : s.samplePorts =
    { s with
      ports := Bank.build fun p =>
        if (s.port p).selected = true ∧ (s.port p).transaction = .idle then
          { s.port p with transaction := .status (statusByte (s.attention p) (s.port p)), shiftedOut := none }
        else if (s.port p).selected = false ∧ (s.port p).transaction ≠ .idle then
          { s.port p with
            transaction := .idle
            error := if (s.port p).framing = .receiving then .truncated else (s.port p).error
            shiftedOut := none }
        else s.port p } := by
  rw [State.samplePorts_eq, ← funext fun p => Port.sampled_eq (s.attention p) (s.port p)]
  rfl

/-! ## A path sampled (R5, R119) -/

/-- A capture path holds at the sample that brings an edge about. -/
theorem SenseLine.take_eq (sample : Level) (l : SenseLine) : l.take sample =
    { l with
      sample := sample
      path :=
        if sample = l.path.level then ⟨l.path.level, 0⟩
        else if l.path.run < l.filter then ⟨l.path.level, l.path.run + 1⟩ else l.path } := by
  by_cases same : sample = l.path.level
  · simp [SenseLine.take, Path.changes, Path.count, same]
  · rcases Nat.lt_or_ge l.path.run l.filter with short | long
    · simp [SenseLine.take, Path.changes, Path.count, same, short, not_le.2 short]
    · simp [SenseLine.take, Path.changes, same, long]

theorem SenseLine.edge_eq (i : Sense) (sample : Level) (l : SenseLine) : l.edge i sample =
    if sample ≠ l.path.level ∧ l.filter ≤ l.path.run then
      [.captureEdge i (if sample = .high then .rising else .falling)]
    else [] := by
  cases sample <;> simp [SenseLine.edge, Path.changes, levelEdge]

theorem Path.sampled_some (n : Nat) (i : Sense) (levels : Bank Level 8) (waits : Level → Bool) (p : Path) :
    p.sampled n (some i) levels waits =
      if levels.read i = p.level then ⟨p.level, 0⟩
      else if p.run < n then ⟨p.level, p.run + 1⟩
      else if waits (levels.read i) then p else ⟨levels.read i, 0⟩ := by
  by_cases same : levels.read i = p.level
  · simp [Path.sampled, Path.changes, Path.count, same]
  · rcases Nat.lt_or_ge p.run n with short | long
    · simp [Path.sampled, Path.changes, Path.count, same, short, not_le.2 short]
    · simp [Path.sampled, Path.changes, Path.at_, same, long, not_lt.2 long]

theorem Path.change_some (n : Nat) (i : Sense) (levels : Bank Level 8) (p : Path) : p.change n (some i) levels =
    if levels.read i ≠ p.level ∧ n ≤ p.run then some (levels.read i) else none := by
  simp [Path.change, Path.changes]

/-- A change of the trigger path to HIGH waits for its event; one to LOW is made at once. -/
theorem Path.sampled_trigger (n : Nat) (i : Sense) (levels : Bank Level 8) (p : Path) :
    p.sampled n (some i) levels (· == .high) =
      if levels.read i = p.level then ⟨p.level, 0⟩
      else if p.run < n then ⟨p.level, p.run + 1⟩
      else if levels.read i = .high then p else ⟨.low, 0⟩ := by
  rw [Path.sampled_some]
  cases levels.read i <;> simp

section

variable (s : State) (levels : Bank Level 8)

theorem State.triggerEvents_some {i : Sense} (source : s.settings.triggerSource = some i) :
    s.triggerEvents levels =
      if levels.read i = .high ∧ s.time.trigger.level = .low ∧ s.settings.timingFilter ≤ s.time.trigger.run
      then [.triggerEdge] else [] := by
  rw [State.triggerEvents, source, Path.change_some]
  by_cases changes : levels.read i ≠ s.time.trigger.level ∧ s.settings.timingFilter ≤ s.time.trigger.run
  · obtain ⟨other, long⟩ := changes
    rw [if_pos ⟨other, long⟩]
    cases sample : levels.read i with
    | low => simp
    | high =>
      have low : s.time.trigger.level = .low := by
        cases level : s.time.trigger.level with
        | low => rfl
        | high => exact absurd (sample.trans level.symm) other
      simp [low, long]
  · rw [if_neg changes, if_neg]
    rintro ⟨high, low, long⟩
    exact changes ⟨by simp [high, low], long⟩

theorem State.gateEvents_some {i : Sense} (source : s.settings.gateSource = some i) :
    s.gateEvents levels =
      if levels.read i ≠ s.time.gate.level ∧ s.settings.timingFilter ≤ s.time.gate.run
      then [.gateChange (levels.read i)] else [] := by
  rw [State.gateEvents, source, Path.change_some]
  by_cases changes : levels.read i ≠ s.time.gate.level ∧ s.settings.timingFilter ≤ s.time.gate.run
  · rw [if_pos changes, if_pos changes]
  · rw [if_neg changes, if_neg changes]

/-! ## The dividers (R1, R18) -/

theorem State.tickDivider_eq : s.tickDivider =
    { s with
      time := { s.time with
        phase := if s.time.run = .running ∧ s.time.phase + 1 < s.settings.divider then s.time.phase + 1
          else s.time.phase }
      arisen := s.arisen ++
        if s.time.run = .running ∧ s.settings.divider ≤ s.time.phase + 1 then [.countAdvance] else [] } := by
  unfold State.tickDivider
  by_cases run : s.time.run = .running
  · rcases Nat.lt_or_ge (s.time.phase + 1) s.settings.divider with inside | due
    · simp [run, inside, not_le.2 inside]
    · have waits : ¬ (s.time.run = .running ∧ s.time.phase + 1 < s.settings.divider) := fun h => not_lt.2 due h.2
      rw [if_pos run, if_neg (not_lt.2 due), if_neg waits, if_pos ⟨run, due⟩]
  · simp [run]

theorem State.tickLease_eq : s.tickLease =
    { s with
      time := { s.time with
        leasePhase := if s.time.leasePhase + 1 < 40000 then s.time.leasePhase + 1 else s.time.leasePhase }
      arisen := s.arisen ++ if 40000 ≤ s.time.leasePhase + 1 then [.leaseClockAdvance] else [] } := by
  unfold State.tickLease Config.leaseDivider
  rcases Nat.lt_or_ge (s.time.leasePhase + 1) 40000 with inside | due
  · simp [inside, not_le.2 inside]
  · simp [due, not_lt.2 due]

/-- A REFCLK period in which nothing is left to be taken. -/
theorem State.exec_refclkPeriod {s : State} (live : s.live = true) (nothing : s.untaken = []) :
    exec (.refclkPeriod levels) s = .next ((s.samplePorts.sampleLines levels).tickDivider.tickLease) := by
  simp only [exec, execRefclkPeriod, State.refclkPeriod, live, if_true, State.takeLeft_nothing s nothing]

end

/-- The events that stand: those that have arisen, and what has run out. -/
theorem State.mem_untaken (s : State) (e : Event) : e ∈ s.untaken ↔ e ∈ s.arisen
    ∨ (∃ a l, e = .leaseExpiry a ∧ (s.session a).state.present = true ∧ (s.session a).lease = some l ∧ l.remaining = 0)
    ∨ (∃ b, e = .deadlineExpiry ∧ s.ballot.slot = .openSlot b ∧ b.deadline = 0) := by
  have lease (a : Agent) : (s.session a).leaseOut = true ↔
      (s.session a).state.present = true ∧ ∃ l, (s.session a).lease = some l ∧ l.remaining = 0 := by
    cases held : (s.session a).lease <;> simp [Session.leaseOut, held]
  have deadline : s.deadlineOut = true ↔ ∃ b, s.ballot.slot = .openSlot b ∧ b.deadline = 0 := by
    cases slot : s.ballot.slot <;> simp [State.deadlineOut, slot]
  rw [State.untaken, List.mem_append, State.mem_expiries, deadline]
  simp only [lease, exists_and_left]

/-- Settles O57: a period is the sampling and the dividers, after whatever stands has been taken. -/
theorem refclkPeriodSamplesAndDivides : Obligations.RefclkPeriodSamplesAndDivides := by
  unfold Obligations.RefclkPeriodSamplesAndDivides
  refine ⟨fun levels s live nothing low high => ?_, fun levels s live nothing => ?_, fun levels s live => ?_,
    fun e s => s.mem_untaken e⟩
  · have seen (p : Agent) : s.samplePort p = s := by
      cases pin : (s.port p).selected
      · exact State.samplePort_idle pin (high p pin)
      · exact State.samplePort_selected pin (low p pin)
    have calm : s.arisen = [] := (List.append_eq_nil_iff.1 nothing).1
    rw [State.exec_refclkPeriod levels live nothing, State.samplePorts_seen seen, State.tickLease_eq,
      State.tickDivider_eq]
    simp only [State.sampleLines, Host.Outcome.next.injEq, State.mk.injEq, TimeBase.mk.injEq, true_and, and_true]
    refine ⟨⟨rfl, ?_, ?_, rfl⟩, ?_, ?_⟩
    · cases s.settings.triggerSource with
      | none => rfl
      | some i => exact Path.sampled_trigger _ i levels _
    · cases s.settings.gateSource with
      | none => rfl
      | some i => exact Path.sampled_some _ i levels _ _
    · exact congrArg Bank.build (funext fun i => SenseLine.take_eq _ _)
    · rw [calm, List.nil_append, State.captureEvents]
      simp only [SenseLine.edge_eq]
      congr 3
      · cases source : s.settings.triggerSource with
        | none => simp [State.triggerEvents, source, Path.change]
        | some i => exact congrArg _ (s.triggerEvents_some levels source)
      · cases source : s.settings.gateSource with
        | none => simp [State.gateEvents, source, Path.change]
        | some i => exact s.gateEvents_some levels source
  · have sampled := s.samplePorts_build
    simp only [State.statusByte_eq] at sampled
    have still : s.samplePorts.live = true := by rw [State.samplePorts_eq]; exact live
    have none : s.samplePorts.untaken = [] := by rw [State.samplePorts_eq]; exact nothing
    rw [← sampled, State.exec_refclkPeriod levels live nothing, State.exec_refclkPeriod levels still none,
      State.samplePorts_twice]
  · obtain ⟨takes, none, still⟩ := s.takeLeft_takes live
    refine ⟨s.takeLeft, takes, none, ?_⟩
    rw [State.exec_refclkPeriod levels still none]
    simp only [exec, execRefclkPeriod, State.refclkPeriod, live, if_true]

end Sys2Proof.Machine
end

section
/-! SUPPORT. What a property of the blocks needs to be kept by every step: one condition for each operation that changes
a block. Ports, pins, the queue of commands and the events that stand are no part of the blocks. -/

namespace Sys2Proof.Machine

/-! ## The blocks -/

/-- What the blocks hold. -/
structure Blocks where
  settings : Settings
  time : TimeBase
  ballot : Ballot
  driveOwner : Bank (Option Agent) 16
  senseOwner : Bank (Option Agent) 8
  drive : Bank DriveLine 16
  sense : Bank SenseLine 8
  sessions : Bank Session 4

def State.blocks (s : State) : Blocks :=
  ⟨s.settings, s.time, s.ballot, s.driveOwner, s.senseOwner, s.drive, s.sense, s.sessions⟩

section

variable (s : State) (p : Agent)

theorem State.blocks_samplePort : (s.samplePort p).blocks = s.blocks := by
  unfold State.samplePort
  dsimp only
  split
  · rfl
  · split <;> rfl

theorem State.blocks_selectPort : (s.selectPort p).blocks = s.blocks := by
  unfold State.selectPort
  split <;> rfl

theorem State.blocks_deselectPort : (s.deselectPort p).blocks = s.blocks := by
  unfold State.deselectPort
  split <;> rfl

theorem State.blocks_releaseReset : s.releaseReset.blocks = s.blocks := by
  unfold State.releaseReset
  split <;> rfl

theorem State.blocks_samplePorts : s.samplePorts.blocks = s.blocks :=
  State.foldl_keeps State.blocks_samplePort _ s

end

/-! ## A property that every step keeps -/

/-- A property of the blocks that holds after reset and is kept by each operation on them. An owning block takes only
what passes the checks of R166. -/
structure StepInvariant (P : State → Prop) : Prop where
  blocks : ∀ {s t : State}, P s → t.blocks = s.blocks → P t
  reset : P State.reset
  renewLease : ∀ {s : State} (a : Agent), P s → P (s.renewLease a)
  take : ∀ {s : State} (a : Agent) (bs : List Byte) (c : Command),
    (c.row bs).refusal (s.session a).state = none → P s → P (s.take a bs c).1
  resetSession : ∀ {s : State} (a : Agent), P s → P (s.resetSession a)
  advanceCount : ∀ {s : State}, P s → P s.advanceCount
  takeTriggerEdge : ∀ {s : State}, P s → P s.takeTriggerEdge
  takeGateChange : ∀ {s : State} (level : Level), P s → P (s.takeGateChange level)
  takeEdge : ∀ {s : State} (i : Sense) (e : Edge), P s → P (s.takeEdge i e)
  lowerLeases : ∀ {s : State}, P s → P s.lowerLeases
  expireLease : ∀ {s : State} (a : Agent), P s → P (s.expireLease a)
  expireDeadline : ∀ {s : State}, P s → P s.expireDeadline
  runOutBudget : ∀ {s : State}, P s → P s.runOutBudget
  endPulse : ∀ {s : State} (d : Drive), P s → P (s.endPulse d)
  endGuard : ∀ {s : State} (d : Drive), P s → P (s.endGuard d)
  sampleLines : ∀ {s : State} (levels : Bank Level 8), P s → P (s.sampleLines levels)
  tickDivider : ∀ {s : State}, P s → P s.tickDivider
  tickLease : ∀ {s : State}, P s → P s.tickLease

namespace StepInvariant

variable {P : State → Prop} (inv : StepInvariant P) {s : State}
include inv

/-! ## Frames and transaction bytes -/

theorem setPort (h : P s) (p : Agent) (x : Port) : P (s.setPort p x) := inv.blocks h rfl

theorem answer (h : P s) (a : Agent) (code : Byte) (bs : List Byte) : P (s.answer a code bs).1 := by
  unfold State.answer
  split
  · exact h
  · next admitted =>
    split
    · next c named =>
      refine inv.take a bs c ?_ h
      rw [frameRefusal, named] at admitted
      dsimp only at admitted
      split at admitted
      · exact admitted
      · cases admitted
    · exact h

theorem deliverFrame (h : P s) (p : Agent) (code tag : Byte) (bs : List Byte) : P (s.deliverFrame p code tag bs) := by
  have settled : P (s.settle p) := inv.blocks h rfl
  unfold State.deliverFrame
  dsimp only
  split
  · exact inv.blocks settled rfl
  split
  · exact inv.blocks settled rfl
  · exact inv.blocks (inv.answer (inv.renewLease p settled) p code bs) rfl

theorem takeFrame (h : P s) (p : Agent) (code tag : Byte) (bs : List Byte) : P (s.takeFrame p code tag bs) := by
  have sampled : P (s.samplePort p) := inv.blocks h (s.blocks_samplePort p)
  unfold State.takeFrame State.offerFrame
  split
  · split
    · exact inv.deliverFrame sampled p code tag bs
    · exact sampled
  · exact h

theorem useByte (h : P s) (p : Agent) (v : Byte) : P (s.useByte p v) := by
  unfold State.useByte
  split
  · exact inv.resetSession p (inv.setPort h p _)
  · exact inv.blocks h rfl

theorem transactionByte (h : P s) (p : Agent) (v : Byte) : P (s.transactionByte p v) := by
  have sampled : P (s.samplePort p) := inv.blocks h (s.blocks_samplePort p)
  unfold State.transactionByte State.chooseAction
  split
  · split
    · exact inv.useByte (inv.setPort sampled p _) p v
    · exact sampled
  · exact h

theorem receiveByte (h : P s) (p : Agent) (frame : List Byte) (v : Byte) : P (s.receiveByte p frame v) := by
  unfold State.receiveByte
  dsimp only
  split
  · exact inv.blocks h rfl
  split
  · exact inv.blocks h rfl
  split
  · exact inv.blocks h rfl
  · exact inv.deliverFrame (inv.setPort h p _) p _ _ _

theorem moveByte (h : P s) (p : Agent) (v : Byte) : P (s.moveByte p v) := by
  unfold State.moveByte
  cases (s.port p).transaction with
  | idle => exact h
  | ignored => exact h
  | command => exact inv.useByte h p v
  | receiving frame => exact inv.receiveByte h p frame v
  | status b => exact inv.blocks h rfl
  | sending k => exact inv.blocks h rfl
  | marker k => exact inv.blocks h rfl
  | done => exact inv.blocks h rfl

theorem shiftByte (h : P s) (p : Agent) (v : Byte) : P (s.shiftByte p v) := by
  unfold State.shiftByte
  split
  · exact inv.moveByte (inv.blocks h (s.blocks_samplePort p)) p v
  · exact h

/-! ## Events and the REFCLK period -/

theorem expire (h : P s) (e : Event) : P (s.expire e) := by
  cases e
  case leaseExpiry a => exact inv.expireLease a h
  case deadlineExpiry => exact inv.expireDeadline h
  all_goals exact h

theorem advanceLease (h : P s) : P s.advanceLease :=
  inv.lowerLeases (takeAll_keeps State.expiries (fun _ _ h => inv.blocks h rfl) (fun e _ h => inv.expire h e) 5 h)

theorem takeEvent (h : P s) (e : Event) : P (s.takeEvent e) := by
  have fewer : P { s with arisen := s.arisen.filter fun f => f != e } := inv.blocks h rfl
  unfold State.takeEvent
  cases e
  case countAdvance => exact inv.advanceCount fewer
  case triggerEdge => exact inv.takeTriggerEdge fewer
  case gateChange level => exact inv.takeGateChange level fewer
  case captureEdge i edge => exact inv.takeEdge i edge fewer
  case leaseClockAdvance => exact inv.advanceLease fewer
  case leaseExpiry a => exact inv.expireLease a fewer
  case deadlineExpiry => exact inv.expireDeadline fewer

theorem refclkPeriod (h : P s) (levels : Bank Level 8) : P (s.refclkPeriod levels) := by
  have left : P s.takeLeft :=
    takeAll_keeps State.untaken (fun _ _ h => inv.blocks h rfl) (fun e _ h => inv.takeEvent h e) _ h
  have sampled : P s.takeLeft.samplePorts := inv.blocks left s.takeLeft.blocks_samplePorts
  unfold State.refclkPeriod
  split
  · exact inv.tickLease (inv.tickDivider (inv.sampleLines levels sampled))
  · exact h

/-! ## Every row -/

omit inv in
/-- The effect of a row that waits for the part to be live. -/
theorem ite_live {t : State} (h : P s) (k : P t) : P (if s.live then t else s) := by
  split
  · exact k
  · exact h

/-- A command-frame row. -/
theorem exec_frame (h : P s) {i : Instr} {f : Frame} (frame : i.frame? = some f) {t : State}
    (row : exec i s = .next t) : P t := by
  rw [Machine.exec_frame frame] at row
  cases row
  exact inv.takeFrame h _ _ _ _

theorem exec (h : P s) {i : Instr} {t : State} (row : exec i s = .next t) : P t := by
  cases i
  case transactionStart p => cases row; exact inv.blocks h (s.blocks_selectPort p)
  case transactionEnd p => cases row; exact inv.blocks h (s.blocks_deselectPort p)
  case send p => cases row; exact inv.transactionByte h p _
  case fetch p => cases row; exact inv.transactionByte h p _
  case peek p v => cases row; exact inv.transactionByte h p v
  case portReset p => cases row; exact inv.transactionByte h p _
  case byteShifted p v => cases row; exact inv.shiftByte h p v
  case deviceReset => cases row; exact inv.blocks inv.reset rfl
  case resetRelease => cases row; exact inv.blocks h s.blocks_releaseReset
  case refclkStop => cases row; exact inv.blocks h rfl
  case refclkResume => cases row; exact inv.blocks h rfl
  case countAdvance => cases row; exact ite_live h (inv.takeEvent h _)
  case triggerEdge => cases row; exact ite_live h (inv.takeEvent h _)
  case gateChange level => cases row; exact ite_live h (inv.takeEvent h _)
  case captureEdge i e => cases row; exact ite_live h (inv.takeEvent h _)
  case leaseClockAdvance => cases row; exact ite_live h (inv.takeEvent h _)
  case leaseExpiry a => cases row; exact ite_live h (inv.takeEvent h _)
  case deadlineExpiry => cases row; exact ite_live h (inv.takeEvent h _)
  case pulseEnd d => cases row; exact ite_live h (inv.endPulse d h)
  case guardEnd d => cases row; exact ite_live h (inv.endGuard d h)
  case budgetRunOut => cases row; exact ite_live h (inv.runOutBudget h)
  case refclkPeriod levels => cases row; exact inv.refclkPeriod h levels
  all_goals exact inv.exec_frame h rfl row

/-- The row at the front of the queue keeps the property, and so does idling. -/
theorem step (h : P s) {t : State} (stepped : step s = .next t) : P t := by
  unfold Machine.step at stepped
  split at stepped
  · cases stepped
    exact h
  · next c rest _ =>
    have popped : P { s with pending := rest } := inv.blocks h rfl
    exact inv.exec popped stepped

end StepInvariant

end Sys2Proof.Machine
end

section
/-! SUPPORT. Coherence (R21, R40, R49, R52, R99) under a change of one part of the state: the sessions, a drive line,
the slot, the owners; and under the operations of the drive engine, the timetable store and the time base. -/

namespace Sys2Proof.Machine

/-! ## What coherence rests on -/

/-- What coherence speaks of. -/
structure Holdings where
  settings : Settings
  proposal : Option Proposal
  driveOwner : Bank (Option Agent) 16
  senseOwner : Bank (Option Agent) 8
  drive : Bank DriveLine 16
  sessions : Bank Session 4

def State.holdings (s : State) : Holdings :=
  ⟨s.settings, s.ballot.slot.proposal?, s.driveOwner, s.senseOwner, s.drive, s.sessions⟩

/-- A line is locked where the proposal that stands locks it (R52). -/
theorem State.lockSet_iff (s : State) (d : Drive) : s.lockSet.read d = true ↔
    ∃ p, s.ballot.slot.proposal? = some p ∧ p.lockSet.read d = true := by
  unfold State.lockSet
  cases s.ballot.slot.proposal? <;> simp [emptySet]

theorem State.ownsTarget_congr {s t : State} (drives : t.driveOwner = s.driveOwner)
    (senses : t.senseOwner = s.senseOwner) (a : Agent) (x : Target) : t.ownsTarget a x = s.ownsTarget a x := by
  cases x <;> simp [State.ownsTarget, State.ownsDrive, State.ownsSense, drives, senses]

theorem Coherent.of_holdings {s t : State} (h : Coherent s) (same : t.holdings = s.holdings) : Coherent t := by
  simp only [State.holdings, Holdings.mk.injEq] at same
  obtain ⟨settings, proposal, driveOwner, senseOwner, drive, sessions⟩ := same
  have session (a : Agent) : t.session a = s.session a := by rw [State.session, sessions]; rfl
  have line (d : Drive) : t.line d = s.line d := by rw [State.line, drive]; rfl
  have lock : t.lockSet = s.lockSet := by simp only [State.lockSet, proposal]
  constructor
  case driveOwners => simpa only [driveOwner, session] using h.driveOwners
  case senseOwners => simpa only [senseOwner, session] using h.senseOwners
  case ended => simpa only [session] using h.ended
  case stagedLines => simpa only [session, State.ownsTarget_congr driveOwner senseOwner] using h.stagedLines
  case activeLines => simpa only [session, State.ownsTarget_congr driveOwner senseOwner] using h.activeLines
  case unownedIdle => simpa only [driveOwner, line] using h.unownedIdle
  case lockedUnowned => simpa only [driveOwner, lock] using h.lockedUnowned
  case pairOwner => simpa only [driveOwner, settings] using h.pairOwner
  case interlock => simpa only [settings, line] using h.interlock

/-! ## Another record for a session -/

/-- The record `q` may stand as the session of agent `a`: it goes on if the session does, an ended one holds nothing,
and its entries name lines of the agent. -/
structure State.Admits (s : State) (a : Agent) (q : Session) : Prop where
  present : (s.session a).state.present = true → q.state.present = true
  ended : q.state.present = false → q.holdsNothing
  staged : ∀ e ∈ q.staging, s.ownsTarget a e.target = true
  active : ∀ e ∈ q.active, s.ownsTarget a e.target = true

theorem Coherent.admits {s : State} (h : Coherent s) (a : Agent) : s.Admits a (s.session a) :=
  ⟨id, h.ended a, h.stagedLines a, h.activeLines a⟩

namespace State.Admits

variable {s : State} {a : Agent} {q r : Session}

/-- A session that goes on may hold anything, as far as its entries name lines of the agent. -/
theorem of_present (goesOn : r.state.present = true) (staged : ∀ e ∈ r.staging, s.ownsTarget a e.target = true)
    (active : ∀ e ∈ r.active, s.ownsTarget a e.target = true) : s.Admits a r :=
  ⟨fun _ => goesOn, fun gone => absurd (goesOn.symm.trans gone) (by decide), staged, active⟩

/-- A session that goes on may change in anything but its lists. -/
theorem update (k : s.Admits a q) (goesOn : r.state.present = true) (staging : r.staging = q.staging)
    (active : r.active = q.active) : s.Admits a r :=
  of_present goesOn (staging ▸ k.staged) (active ▸ k.active)

theorem offer (k : s.Admits a q) (goesOn : q.state.present = true) (x : Notice) : s.Admits a (q.offer x) :=
  k.update (by simpa using goesOn) (by simp) (by simp)

end State.Admits

section

variable {s : State} (h : Coherent s)
include h

theorem Coherent.withSessions {sessions : Bank Session 4} (admits : ∀ a, s.Admits a (sessions.read a)) :
    Coherent { s with sessions := sessions } where
  driveOwners d a owner := (admits a).present (h.driveOwners d a owner)
  senseOwners i a owner := (admits a).present (h.senseOwners i a owner)
  ended a := (admits a).ended
  stagedLines a := (admits a).staged
  activeLines a := (admits a).active
  unownedIdle := h.unownedIdle
  lockedUnowned := h.lockedUnowned
  pairOwner := h.pairOwner
  interlock := h.interlock

theorem Coherent.setSession {a : Agent} {q : Session} (admits : s.Admits a q) : Coherent (s.setSession a q) := by
  refine h.withSessions fun b => ?_
  rw [Bank.read_write]
  split
  · next same => rw [same]; exact admits
  · exact h.admits b

theorem Coherent.notifyEach (n : Cycle) (k : NoticeKind) (who : Agent → Bool) : Coherent (s.notifyEach n k who) := by
  refine h.withSessions fun a => ?_
  rw [Bank.read_build]
  split
  · next told => exact (h.admits a).offer (Bool.and_eq_true_iff.1 told).2 _
  · exact h.admits a

/-- A record made for a session that has not ended (R126 to R129). -/
theorem Coherent.makeRecord {a : Agent} (present : (s.session a).state.present = true) (kind : RecordKind)
    (count : Nat) : Coherent (s.makeRecord a kind count) := by
  have lost := (s.session a).sameRecord_countLoss kind.source
  unfold State.makeRecord
  dsimp only
  split
  · have joined : Coherent (s.setSession a
        { s.session a with
          captures := (s.session a).captures ++ [⟨kind, (s.session a).sequence, s.time.cycle, count⟩]
          sequence := (s.session a).sequence + 1 }) := h.setSession ((h.admits a).update present rfl rfl)
    split
    · exact joined.notifyEach _ _ _
    · exact joined
  · have dropped : Coherent (s.setSession a
        { (s.session a).countLoss kind.source with
          sequence := (s.session a).sequenceAfterDrop, overrun := true }) :=
      h.setSession ((h.admits a).update (by rw [← present, ← lost.state]) lost.staging lost.active)
    split
    · exact dropped
    · exact dropped.notifyEach _ _ _

/-! ## Another record for the drive lines -/

theorem Coherent.withDrive {drive : Bank DriveLine 16}
    (idle : ∀ d, s.driveOwner.read d = none → drive.read d = .idle)
    (safe : ∀ d, interlocked s.settings d = true →
      ¬ ((drive.read d).asserted = true ∧ (drive.read (partner d)).asserted = true)) :
    Coherent { s with drive := drive } where
  driveOwners := h.driveOwners
  senseOwners := h.senseOwners
  ended := h.ended
  stagedLines := h.stagedLines
  activeLines := h.activeLines
  unownedIdle := idle
  lockedUnowned := h.lockedUnowned
  pairOwner := h.pairOwner
  interlock := safe

/-- Where no line becomes ASSERTED and an idle line stays idle, coherence stays. -/
theorem Coherent.lowerDrive {drive : Bank DriveLine 16} (idle : ∀ d, s.line d = .idle → drive.read d = .idle)
    (lowers : ∀ d, (drive.read d).asserted = true → (s.line d).asserted = true) :
    Coherent { s with drive := drive } :=
  h.withDrive (fun d unowned => idle d (h.unownedIdle d unowned))
    fun d linked both => h.interlock d linked ⟨lowers d both.1, lowers _ both.2⟩

omit h in
/-- A line that is not blocked has a DEASSERTED partner, if the two are interlocked (R99). -/
theorem partner_deasserted {d : Drive} (free : blocked s.settings s.drive d = false)
    (linked : interlocked s.settings d = true) : (s.line (partner d)).asserted = false := by
  simp only [blocked, linked, Bool.true_and, Bool.or_eq_false_iff] at free
  exact free.1

/-- An owned line may be written, if it is ASSERTED only where it was or where it is not blocked (R99). -/
theorem Coherent.setLine {d : Drive} {l : DriveLine} (owned : s.driveOwner.read d ≠ none)
    (safe : l.asserted = true → (s.line d).asserted = true ∨ blocked s.settings s.drive d = false) :
    Coherent (s.setLine d l) := by
  have partnerLow (linked : interlocked s.settings d = true) (high : l.asserted = true) :
      (s.line (partner d)).asserted = false := by
    rcases safe high with before | free
    · exact Bool.eq_false_iff.2 fun both => h.interlock d linked ⟨before, both⟩
    · exact partner_deasserted free linked
  refine h.withDrive (fun e unowned => ?_) fun e linked => ?_
  · have other : e ≠ d := fun same => owned (same ▸ unowned)
    rw [Bank.read_write_of_ne _ _ other]
    exact h.unownedIdle e unowned
  · rintro ⟨own, both⟩
    by_cases first : e = d
    · subst first
      rw [Bank.read_write_self] at own
      rw [Bank.read_write_of_ne _ _ (partner_ne e)] at both
      exact Bool.eq_false_iff.1 (partnerLow linked own) both
    · rw [Bank.read_write_of_ne _ _ first] at own
      by_cases second : partner e = d
      · subst second
        rw [Bank.read_write_self] at both
        have low := partnerLow (by rwa [interlocked_partner]) both
        rw [partner_partner] at low
        exact Bool.eq_false_iff.1 low own
      · rw [Bank.read_write_of_ne _ _ second] at both
        exact h.interlock e linked ⟨own, both⟩

/-- A line that is not in the unowned condition is owned (R49). -/
theorem Coherent.owned_of_ne_idle {d : Drive} (ne : s.line d ≠ .idle) : s.driveOwner.read d ≠ none :=
  fun unowned => ne (h.unownedIdle d unowned)

/-! ## Another slot -/

theorem Coherent.withBallot {b : Ballot} (lock : ∀ p, b.slot.proposal? = some p →
    ∀ d, p.lockSet.read d = true → s.driveOwner.read d = none) : Coherent { s with ballot := b } where
  driveOwners := h.driveOwners
  senseOwners := h.senseOwners
  ended := h.ended
  stagedLines := h.stagedLines
  activeLines := h.activeLines
  unownedIdle := h.unownedIdle
  lockedUnowned d locked := by
    obtain ⟨p, stands, locks⟩ := (State.lockSet_iff _ d).1 locked
    exact lock p stands d locks
  pairOwner := h.pairOwner
  interlock := h.interlock

/-- No line that a standing proposal locks is owned (R52). -/
theorem Coherent.locked {p : Proposal} (stands : s.ballot.slot.proposal? = some p) (d : Drive)
    (locks : p.lockSet.read d = true) : s.driveOwner.read d = none :=
  h.lockedUnowned d ((s.lockSet_iff d).2 ⟨p, stands, locks⟩)

/-- A slot in which no new proposal stands. -/
theorem Coherent.narrowBallot {b : Ballot}
    (narrower : ∀ p, b.slot.proposal? = some p → s.ballot.slot.proposal? = some p) :
    Coherent { s with ballot := b } :=
  h.withBallot fun p stands => h.locked (narrower p stands)

theorem Coherent.emptySlot : Coherent s.emptySlot := h.narrowBallot fun p stands => by cases stands

/-! ## Due entries (R59, R101) -/

/-- An entry of a session's active part is of a session that has not ended. -/
theorem Coherent.present_of_active {a : Agent} {e : Entry} (mem : e ∈ (s.session a).active) :
    (s.session a).state.present = true := by
  by_contra gone
  obtain ⟨-, -, -, active, -⟩ := h.ended a (Bool.eq_false_iff.2 gone)
  rw [active] at mem
  cases mem

theorem Coherent.serve {x : Agent × Entry} (owns : s.ownsTarget x.1 x.2.target = true)
    (present : (s.session x.1).state.present = true) : Coherent (s.serve x) := by
  cases target : x.2.target with
  | drive d =>
    rw [s.serve_drive target]
    rw [target] at owns
    have owner : s.driveOwner.read d = some x.1 := by simpa [State.ownsTarget, State.ownsDrive] using owns
    refine h.setLine (by simp [owner]) fun high => ?_
    by_contra both
    obtain ⟨low, held⟩ := not_or.1 both
    rw [Bool.not_eq_false] at held
    rw [held, DriveLine.serve_asserted (Bool.eq_false_iff.2 low)] at high
    cases high
  | sense i =>
    rw [s.serve_sense target]
    exact h.of_holdings rfl
  | marker =>
    rw [s.serve_marker target]
    unfold State.serveMark
    split
    · exact h.makeRecord present _ _
    · exact h

omit h in
/-- An entry due at a count is one of its agent's active part. -/
theorem State.active_of_mem_dueEntries {count : Nat} {x : Agent × Entry} (mem : x ∈ s.dueEntries count) :
    x.2 ∈ (s.session x.1).active := by
  obtain ⟨a, e⟩ := x
  simp only [State.dueEntries, List.mem_append, List.mem_flatMap, List.mem_finRange, true_and] at mem
  rcases mem with (⟨d, due⟩ | ⟨i, due⟩) | due
  all_goals exact ((s.mem_dueOn _ _ a e).1 due).1

theorem Coherent.reach (count : Nat) : Coherent (s.reach count) := by
  have start : Coherent (s.atCount count) := h.of_holdings rfl
  rw [State.reach_eq]
  refine (List.foldlRecOn (motive := fun t => Coherent t ∧ (s.atCount count).Served t) _ _ ⟨start, .refl _⟩
    fun t ⟨coherent, served⟩ x mem => ⟨?_, served.trans (t.served_serve x)⟩).1
  have active := State.active_of_mem_dueEntries mem
  refine coherent.serve ?_ ?_
  · rw [State.ownsTarget_congr served.driveOwner served.senseOwner]
    exact h.activeLines x.1 x.2 active
  · rw [(served.records x.1).state]
    exact h.present_of_active active

/-! ## The countdown and the lapse of deferred asserts (R106 to R108) -/

theorem Coherent.notifyResolved (n : Cycle) (d : Drive) (x : Deferred) (taken : Bool) :
    Coherent (s.notifyResolved n d x taken) := by
  unfold State.notifyResolved
  split
  · exact h
  · exact h.notifyEach _ _ _

theorem Coherent.owned_of_deferred {d : Drive} {x : Deferred} (deferred : (s.line d).deferred = some x) :
    s.driveOwner.read d ≠ none :=
  h.owned_of_ne_idle fun idle => by rw [idle] at deferred; cases deferred

theorem Coherent.takeDeferral (n : Cycle) (d : Drive) : Coherent (s.takeDeferral n d) := by
  unfold State.takeDeferral
  split
  · exact h
  · next x deferred =>
    split
    · exact h
    · next free =>
      exact (h.setLine (h.owned_of_deferred deferred) fun _ => .inr (Bool.eq_false_iff.2 free)).notifyResolved _ _ _ _

theorem Coherent.countdown (n : Cycle) : Coherent (s.countdown n) := by
  have lowered : Coherent { s with drive := lowerPulses s.settings (lowerGuards s.drive) } := by
    refine h.lowerDrive (fun d idle => ?_) fun d high => ?_ <;>
      simp only [lowerPulses, lowerGuards, Bank.read_build] at *
    · rw [show s.drive.read d = .idle from idle]
      rfl
    · have before := DriveLine.lowerPulse_asserted high
      exact before
  exact List.foldlRecOn _ _ lowered fun t coherent d _ => coherent.takeDeferral n d

theorem Coherent.lapseDeferral (n : Cycle) (d : Drive) : Coherent (s.lapseDeferral n d) := by
  unfold State.lapseDeferral
  split
  · exact h
  · next x deferred =>
    split
    · exact h
    · have lapsed : Coherent (s.setLine d { s.line d with deferred := none }) :=
        h.setLine (h.owned_of_deferred deferred) fun high => .inl high
      exact lapsed.notifyResolved _ _ _ _

theorem Coherent.lapseDeferrals (n : Cycle) : Coherent (s.lapseDeferrals n) :=
  List.foldlRecOn _ _ h fun _ coherent d _ => coherent.lapseDeferral n d

/-! ## The time base (R3, R10, R11) -/

theorem Coherent.beginCycle : Coherent s.beginCycle := by
  have new : Coherent s.newCycle := h.of_holdings rfl
  rcases s.beginCycle_cases with ⟨-, eq⟩ | ⟨-, eq⟩ <;> rw [eq]
  · exact new.reach 0
  · exact new

omit h in
theorem DriveLine.stop_asserted {l : DriveLine} (high : l.stop.asserted = true) : l.asserted = true := by
  unfold DriveLine.stop at high
  dsimp only at high
  split at high
  · cases high
  · exact high

theorem Coherent.enterIdle (run : RunState) : Coherent (s.enterIdle run) := by
  have stopped : Coherent { s with drive := Bank.build fun d => (s.line d).stop } := by
    refine h.lowerDrive (fun d idle => ?_) fun d high => ?_
    · rw [Bank.read_build, idle]
      rfl
    · rw [Bank.read_build] at high
      exact DriveLine.stop_asserted high
  exact stopped.of_holdings rfl

theorem Coherent.setTime (t : TimeBase) : Coherent (s.setTime t) := h.of_holdings rfl

theorem Coherent.examineBudget : Coherent s.examineBudget := by
  rcases s.examineBudget_cases with ⟨-, eq⟩ | ⟨-, eq⟩ | ⟨-, eq⟩ <;> rw [eq]
  · exact h
  · exact h.of_holdings rfl
  · exact (h.setTime _).enterIdle _

/-! ## The application of a ballot (R149) -/

omit h in
/-- The setup of a pair without a proposed one stays (R136). -/
theorem interlocked_updated_of_none {st : Settings} {p : Proposal} {d : Drive}
    (absent : p.pairSetup.read (pairOf d) = none) : interlocked (st.updated p) d = interlocked st d := by
  simp [interlocked, Settings.updated, absent]

omit h in
/-- Both lines of a pair with a proposed setup are locked (R52). -/
theorem Proposal.locks_of_pairSetup {p : Proposal} {d : Drive} (present : p.pairSetup.read (pairOf d) ≠ none) :
    p.lockSet.read d = true ∧ p.lockSet.read (partner d) = true := by
  simp [Proposal.lockSet, Option.isSome_iff_ne_none, present]

/-- Settings applied from a standing proposal: a pair that becomes interlocked is unowned, and its lines are idle. -/
theorem Coherent.applySettings {p : Proposal} (stands : s.ballot.slot.proposal? = some p) :
    Coherent (s.applySettings p) := by
  have owner := s.applySettings_driveOwner p
  have session (a : Agent) : (s.applySettings p).session a = s.session a := by
    rw [State.session, State.applySettings_sessions]; rfl
  have owns (a : Agent) (x : Target) : (s.applySettings p).ownsTarget a x = s.ownsTarget a x :=
    State.ownsTarget_congr owner (s.applySettings_senseOwner p) a x
  have high (d : Drive) (asserted : ((s.applySettings p).line d).asserted = true) : (s.line d).asserted = true := by
    by_contra low
    rw [State.applySettings_deasserted s (Bool.eq_false_iff.2 low)] at asserted
    cases asserted
  have unlocked (d : Drive) (present : p.pairSetup.read (pairOf d) ≠ none) :
      s.driveOwner.read d = none ∧ s.driveOwner.read (partner d) = none := by
    obtain ⟨own, other⟩ := Proposal.locks_of_pairSetup present
    exact ⟨h.locked stands d own, h.locked stands _ other⟩
  constructor
  case driveOwners => simpa only [owner, session] using h.driveOwners
  case senseOwners => simpa only [State.applySettings_senseOwner, session] using h.senseOwners
  case ended => simpa only [session] using h.ended
  case stagedLines => simpa only [session, owns] using h.stagedLines
  case activeLines => simpa only [session, owns] using h.activeLines
  case unownedIdle =>
    intro d unowned
    rw [owner] at unowned
    have idle := h.unownedIdle d unowned
    rcases s.applySettings_cases p with ⟨-, -, -, -, drive⟩ | ⟨-, -, -, -, -, drive⟩ <;> rw [State.line, drive]
    · exact idle
    · rw [Bank.read_build, idle]
      rfl
  case lockedUnowned =>
    intro d locked
    rw [State.lockSet_iff, State.applySettings_ballot, ← State.lockSet_iff] at locked
    rw [owner]
    exact h.lockedUnowned d locked
  case pairOwner =>
    intro d linked
    rw [State.applySettings_settings] at linked
    rw [owner]
    by_cases present : p.pairSetup.read (pairOf d) = none
    · exact h.pairOwner d (by rwa [interlocked_updated_of_none present] at linked)
    · obtain ⟨own, other⟩ := unlocked d present
      rw [own, other]
  case interlock =>
    rintro d linked ⟨own, both⟩
    rw [State.applySettings_settings] at linked
    by_cases present : p.pairSetup.read (pairOf d) = none
    · exact h.interlock d (by rwa [interlocked_updated_of_none present] at linked) ⟨high d own, high _ both⟩
    · have idle := h.unownedIdle d (unlocked d present).1
      have asserted := high d own
      rw [idle] at asserted
      cases asserted

theorem Coherent.applyIfIdle : Coherent s.applyIfIdle := by
  unfold State.applyIfIdle
  split
  · next b p slot =>
    split
    · exact h
    · have applied : Coherent (s.applySettings p) := h.applySettings (by rw [slot]; rfl)
      have begun : Coherent ((s.applySettings p).beginIfStarted s.time.run) := by
        unfold State.beginIfStarted
        split
        · exact applied.beginCycle
        · exact applied
      have told :
          Coherent ((((s.applySettings p).beginIfStarted s.time.run).emptySlot).notifyIfChanged s.time.run) := by
        unfold State.notifyIfChanged
        split
        · exact begun.emptySlot
        · exact begun.emptySlot.notifyEach _ _ _
      exact told.notifyEach _ _ _
  · exact h
  · exact h

/-! ## Ballots that close, and agents that leave (R146, R147) -/

theorem Coherent.failBallot (n : Cycle) (b : OpenBallot) (reason : FailReason) : Coherent (s.failBallot n b reason) :=
  (h.notifyEach _ _ _).narrowBallot fun p stands => by cases stands

theorem Coherent.passBallot (n : Cycle) {b : OpenBallot} (stands : s.ballot.slot.proposal? = some b.proposal) :
    Coherent (s.passBallot n b) :=
  (h.notifyEach _ _ _).narrowBallot fun _ passed => stands.trans passed

theorem Coherent.holdOrPass (n : Cycle) {b : OpenBallot} (stands : s.ballot.slot.proposal? = some b.proposal) :
    Coherent (s.holdOrPass n b) := by
  unfold State.holdOrPass
  split
  · exact h.passBallot n stands
  · exact h.narrowBallot fun _ held => stands.trans held

theorem Coherent.leaveBallot (n : Cycle) (a : Agent) : Coherent (s.leaveBallot n a) := by
  obtain ⟨k, who, b, left, narrower⟩ := s.leaveBallot_cases n a
  rw [left]
  exact (h.notifyEach n k who).narrowBallot narrower

theorem Coherent.expireDeadline : Coherent s.expireDeadline := by
  unfold State.expireDeadline
  split
  · split
    · exact h.failBallot _ _ _
    · exact h
  · exact h
  · exact h

end

/-! ## Teardown (R32) -/

/-- A teardown brings the agent's lines, and no others, to the unowned condition. -/
theorem State.tearDown_line (s : State) (n : Cycle) (a : Agent) (after : SessionState) (reason : LeaveReason)
    (d : Drive) : (s.tearDown n a after reason).line d = if s.ownsDrive a d then .idle else s.line d := by
  obtain ⟨k, who, b, left, -⟩ := ((s.clearLines a).vacate a after).leaveBallot_cases n a
  rw [State.tearDown, left]
  exact Bank.read_build _ d

/-- An owner left after a teardown is another agent's, and was the owner before. -/
theorem filter_notMem_singleton {owner : Option Agent} {a b : Agent} :
    owner.filter (· ∉ [a]) = some b ↔ owner = some b ∧ b ≠ a := by
  simp [Option.filter_eq_some_iff]

section

variable {s : State} (h : Coherent s)
include h

theorem Coherent.tearDown (n : Cycle) (a : Agent) {after : SessionState} (reason : LeaveReason)
    (departs : after.present = false) : Coherent (s.tearDown n a after reason) := by
  have torn := s.tornDown_tearDown n a reason departs
  have line := s.tearDown_line n a after reason
  generalize s.tearDown n a after reason = t at torn line ⊢
  have gone : t.session a = .vacant after (s.session a).epoch := torn.ended a (by simp)
  have kept (b : Agent) (ne : b ≠ a) : (s.session b).SameRecord (t.session b) := torn.kept b (by simpa using ne)
  have owns (b : Agent) (ne : b ≠ a) (x : Target) (owned : s.ownsTarget b x = true) : t.ownsTarget b x = true := by
    cases x with
    | drive d =>
      simp only [State.ownsTarget, State.ownsDrive, beq_iff_eq] at owned ⊢
      rw [torn.driveOwner, filter_notMem_singleton]
      exact ⟨owned, ne⟩
    | sense i =>
      simp only [State.ownsTarget, State.ownsSense, beq_iff_eq] at owned ⊢
      rw [torn.senseOwner, filter_notMem_singleton]
      exact ⟨owned, ne⟩
    | marker => rfl
  have high (d : Drive) (asserted : (t.line d).asserted = true) : (s.line d).asserted = true := by
    rcases torn.lines d with same | idle
    · rwa [same] at asserted
    · rw [idle] at asserted
      cases asserted
  constructor
  case driveOwners =>
    intro d b owner
    rw [torn.driveOwner, filter_notMem_singleton] at owner
    rw [(kept b owner.2).state]
    exact h.driveOwners d b owner.1
  case senseOwners =>
    intro i b owner
    rw [torn.senseOwner, filter_notMem_singleton] at owner
    rw [(kept b owner.2).state]
    exact h.senseOwners i b owner.1
  case ended =>
    intro b absent
    by_cases same : b = a
    · rw [same, gone]
      exact ⟨rfl, rfl, rfl, rfl, rfl, rfl⟩
    · rw [(kept b same).state] at absent
      rw [torn.absent b (by simpa using same) absent]
      exact h.ended b absent
  case stagedLines =>
    intro b e mem
    by_cases same : b = a
    · rw [same, gone] at mem
      cases mem
    · rw [(kept b same).staging] at mem
      exact owns b same _ (h.stagedLines b e mem)
  case activeLines =>
    intro b e mem
    by_cases same : b = a
    · rw [same, gone] at mem
      cases mem
    · rw [(kept b same).active] at mem
      exact owns b same _ (h.activeLines b e mem)
  case unownedIdle =>
    intro d unowned
    rw [line]
    split
    · rfl
    · next other =>
      refine h.unownedIdle d ?_
      rw [torn.driveOwner] at unowned
      cases owner : s.driveOwner.read d with
      | none => rfl
      | some b =>
        have ne : b ≠ a := by rintro rfl; simp [State.ownsDrive, owner] at other
        rw [filter_notMem_singleton.2 ⟨owner, ne⟩] at unowned
        cases unowned
  case lockedUnowned =>
    intro d locked
    obtain ⟨p, stands, locks⟩ := (t.lockSet_iff d).1 locked
    rw [torn.driveOwner, h.locked (torn.proposal p stands) d locks]
    rfl
  case pairOwner =>
    intro d linked
    rw [torn.settings] at linked
    rw [torn.driveOwner, torn.driveOwner, h.pairOwner d linked]
  case interlock =>
    rintro d linked ⟨own, both⟩
    rw [torn.settings] at linked
    exact h.interlock d linked ⟨high d own, high _ both⟩

theorem Coherent.tearDownNow (a : Agent) {after : SessionState} (reason : LeaveReason)
    (departs : after.present = false) : Coherent (s.tearDownNow a after reason) :=
  (h.tearDown _ a reason departs).applyIfIdle

theorem Coherent.expireLease (a : Agent) : Coherent (s.expireLease a) := by
  unfold State.expireLease
  split
  · exact h.tearDownNow a .expired rfl
  · exact h

/-- PORT_RESET on a session that has ended leaves one that has ended (R36). -/
theorem Coherent.resetSession (a : Agent) : Coherent (s.resetSession a) := by
  unfold State.resetSession
  split
  · exact h.tearDownNow a .portReset rfl
  · next absent =>
    obtain ⟨-, -, staging, active, captures, notices⟩ := h.ended a (Bool.eq_false_iff.2 absent)
    exact h.setSession ⟨fun present => absurd present absent, 
      fun _ => ⟨rfl, rfl, staging, active, captures, notices⟩,
      h.stagedLines a, h.activeLines a⟩

/-! ## Boundaries (R13, R14) -/

/-- An exchanged record: the list it takes over names lines of the agent (R88). -/
theorem Coherent.admits_exchanged (n : Cycle) (a : Agent) : s.Admits a (s.exchanged n a) := by
  unfold State.exchanged
  split
  · exact h.admits a
  · next taken pending =>
    have present : (s.session a).state.present = true := by
      by_contra gone
      obtain ⟨-, commit, -⟩ := h.ended a (Bool.eq_false_iff.2 gone)
      rw [commit] at pending
      cases pending
    have exchanged : s.Admits a
        { s.session a with active := (s.session a).staging, applied := some n, commit := .none } :=
      .of_present present (h.stagedLines a) (h.stagedLines a)
    dsimp only
    rw [if_pos present]
    exact exchanged.offer present _

theorem Coherent.exchangeAll (n : Cycle) : Coherent (s.exchangeAll n) := by
  rw [State.exchangeAll_eq]
  refine h.withSessions fun a => ?_
  rw [Bank.read_build]
  exact h.admits_exchanged n a

theorem Coherent.applyAtBoundary (n : Cycle) : Coherent (s.applyAtBoundary n) := by
  unfold State.applyAtBoundary
  split
  · next slot => exact (h.applySettings (by rw [slot]; rfl)).emptySlot.notifyEach _ _ _
  · exact h
  · exact h

theorem Coherent.tearDownClosing (n : Cycle) : Coherent (s.tearDownClosing n) := by
  obtain ⟨order, k, -, eq⟩ := s.tearDownClosing_perm n
  have torn : Coherent (order.foldl (fun u a => u.tearDown n a .closed .closed) s) :=
    List.foldlRecOn _ _ h fun _ coherent a _ => coherent.tearDown n a .closed rfl
  rw [eq]
  exact torn.of_holdings rfl

theorem Coherent.completeBoundary : Coherent s.completeBoundary := by
  cases run : s.time.run.isRunning
  · rw [s.completeBoundary_idle run]
    exact h
  · rw [s.completeBoundary_running run]
    exact Coherent.beginCycle (s := s.resumed) (h.of_holdings rfl)

theorem Coherent.notifyBoundary (n : Cycle) (r1 r3 : RunState) : Coherent (s.notifyBoundary n r1 r3) := by
  unfold State.notifyBoundary
  split
  · exact h.notifyEach _ _ _
  · split
    · exact h
    · exact h.notifyEach _ _ _

theorem Coherent.boundary (normal : Bool) : Coherent (s.boundary normal) := by
  have counted : Coherent (s.lastCount normal) := by
    unfold State.lastCount
    split
    · exact h.countdown _
    · exact h
  have applied : Coherent (s.ballotApplied normal) := (counted.examineBudget.exchangeAll _).applyAtBoundary _
  rw [State.boundary_eq]
  exact ((applied.tearDownClosing _).lapseDeferrals _).completeBoundary.notifyBoundary _ _ _

/-! ## Count advances, trigger edges, gate changes and capture edges (R1, R7, R9, R123) -/

theorem Coherent.withCount (k : Nat) : Coherent (s.withCount k) := h.of_holdings rfl

theorem Coherent.advanceCount : Coherent s.advanceCount := by
  have counted : Coherent s.counted := ((h.setTime _).countdown _).withCount _
  rw [State.advanceCount_eq]
  split
  · split
    · exact counted.reach _
    · exact (h.setTime _).boundary true
  · exact h

theorem Coherent.useTrigger : Coherent s.useTrigger := by
  by_cases start : s.time.run = .armed ∧ s.settings.mode = .triggered
  · rw [s.useTrigger_start start.1 start.2, State.triggerStart_eq]
    exact Coherent.notifyEach (Coherent.beginCycle (s := s.triggered) (h.setTime _)) _ _ _
  · by_cases restart : s.time.run = .running ∧ s.settings.mode = .restart
    · rw [s.useTrigger_restart restart.1 restart.2]
      exact h.boundary false
    · rw [s.useTrigger_other start restart]
      exact h

theorem Coherent.takeTriggerEdge : Coherent s.takeTriggerEdge := by
  unfold State.takeTriggerEdge
  split
  · exact h
  · next i _ =>
    have shown : Coherent { s.showLevel i .high with time := { s.time with trigger := .at_ .high } } :=
      h.of_holdings rfl
    exact shown.useTrigger

theorem Coherent.useGate (level : Level) : Coherent (s.useGate level) := by
  by_cases acts : s.settings.mode = .gated
      ∧ ((s.time.run = .running ∧ level = .low) ∨ (s.time.run = .held ∧ level = .high))
  · obtain ⟨mode, ⟨run, rfl⟩ | ⟨run, rfl⟩⟩ := acts
    · rw [s.useGate_hold mode run]
      exact h.of_holdings rfl
    · rw [s.useGate_resume mode run]
      split
      · exact h.setTime _
      · exact (h.setTime _).reach 0
  · rw [s.useGate_other level acts]
    exact h

theorem Coherent.takeGateChange (level : Level) : Coherent (s.takeGateChange level) := by
  unfold State.takeGateChange
  split
  · exact h
  · next i _ =>
    have shown : Coherent { s.showLevel i level with time := { s.time with gate := .at_ level } } :=
      h.of_holdings rfl
    exact shown.useGate level

theorem Coherent.setSenseLine (i : Sense) (l : SenseLine) : Coherent (s.setSenseLine i l) := h.of_holdings rfl

/-- An edge makes a record for the owner of its line, whose session has not ended. -/
theorem Coherent.takeEdge (i : Sense) (e : Edge) : Coherent (s.takeEdge i e) := by
  unfold State.takeEdge
  dsimp only
  split
  · exact h.setSenseLine i _
  · next a owner =>
    split
    · split
      · exact h.setSenseLine i _
      · exact (h.setSenseLine i _).makeRecord (h.senseOwners i a owner) _ _
    · exact h.setSenseLine i _

theorem Coherent.runOutBudget : Coherent s.runOutBudget := by
  unfold State.runOutBudget
  split
  · split
    · exact (h.setTime _).boundary true
    · split
      · exact h.boundary false
      · exact h
  · exact h

theorem Coherent.endPulse (d : Drive) : Coherent (s.endPulse d) := by
  unfold State.endPulse
  split
  · next ends =>
    refine h.setLine (h.owned_of_ne_idle fun idle => ?_) fun high => ?_
    · rw [idle] at ends
      cases ends.2
    · simp [DriveLine.endPulse] at high
  · exact h

theorem Coherent.endGuard (d : Drive) : Coherent (s.endGuard d) := by
  unfold State.endGuard
  split
  · next ends =>
    refine h.setLine (h.owned_of_ne_idle fun idle => ?_) fun high => .inl high
    rw [idle] at ends
    cases ends.2
  · exact h

theorem Coherent.tickDivider : Coherent s.tickDivider := by
  unfold State.tickDivider
  split
  · split <;> exact h.of_holdings rfl
  · exact h

theorem Coherent.tickLease : Coherent s.tickLease := by
  unfold State.tickLease
  split <;> exact h.of_holdings rfl

/-! ## Leases (R18, R23) -/

/-- A session whose lease alone changes, and only while the session goes on. -/
theorem Coherent.admits_renew (a : Agent) : s.Admits a (s.session a).renew := by
  unfold Session.renew
  split
  · next present => exact (h.admits a).update present rfl rfl
  · exact h.admits a

theorem Coherent.admits_lowerLease (a : Agent) : s.Admits a (s.session a).lowerLease := by
  unfold Session.lowerLease
  split
  · next present => exact (h.admits a).update present rfl rfl
  · exact h.admits a

theorem Coherent.renewLease (a : Agent) : Coherent (s.renewLease a) := h.setSession (h.admits_renew a)

theorem Coherent.lowerLeases : Coherent s.lowerLeases := by
  have lowered : Coherent { s with sessions := Bank.build fun a => (s.session a).lowerLease } := by
    refine h.withSessions fun a => ?_
    rw [Bank.read_build]
    exact h.admits_lowerLease a
  refine lowered.of_holdings ?_
  have proposal : s.ballot.slot.lowerDeadline.proposal? = s.ballot.slot.proposal? := by cases s.ballot.slot <;> rfl
  simp [State.holdings, State.lowerLeases, proposal]

end

end Sys2Proof.Machine
end

section
/-! SUPPORT. Coherence is kept by the command of every owning block that a session may give (R22), and with that by
every step (O5). -/

namespace Sys2Proof.Machine

/-! ## Sets of lines -/

theorem setIsEmpty_iff {n : Nat} (b : Bank Bool n) : setIsEmpty b = true ↔ ∀ i, b.read i = false := by
  simp [setIsEmpty]

@[simp] theorem setFilter_read {n : Nat} (b : Bank Bool n) (f : Fin n → Bool) (i : Fin n) :
    (setFilter b f).read i = (b.read i && f i) := by
  simp [setFilter]

theorem LineSets.isEmpty_iff (x : LineSets) :
    x.isEmpty = true ↔ (∀ d, x.drives.read d = false) ∧ ∀ i, x.senses.read i = false := by
  simp [LineSets.isEmpty, setIsEmpty_iff]

/-- An expanded set holds both lines of an interlocked pair or neither (R40). -/
theorem expandDrives_partner {st : Settings} (req : Bank Bool 16) {d : Drive} (linked : interlocked st d = true) :
    (expandDrives st req).read (partner d) = (expandDrives st req).read d := by
  simp [expandDrives, linked, Bool.or_comm]

/-! ## Who may give a command (R22) -/

/-- Only OPEN and STATUS are taken where no session goes on. -/
theorem Command.present_of_admitted {c : Command} {bs : List Byte} {q : SessionState}
    (admitted : (c.row bs).refusal q = none) (notOpen : c ≠ .openSession) (notStatus : c ≠ .status) :
    q.present = true := by
  have rows : c.row bs = .whilePresent ∨ c.row bs = .whileOpen := by
    cases c
    case openSession => exact absurd rfl notOpen
    case status => exact absurd rfl notStatus
    case close =>
      simp only [Command.row]
      split
      · exact .inr rfl
      · exact .inl rfl
    case renew | readNotices | readCaptures | readActive | readStaged | readSettings => exact .inl rfl
    all_goals exact .inr rfl
  cases q
  case openState | closing => rfl
  case closed | expired => rcases rows with row | row <;> rw [row] at admitted <;> cases admitted

/-! ## Ownership (chapter 3) -/

section

variable {s : State} (h : Coherent s) {a : Agent}
include h

/-- Unowned lines become the agent's: both or none of an interlocked pair, and none that is locked (R40 to R42). -/
theorem Coherent.assignLines (present : (s.session a).state.present = true) {x : LineSets}
    (free : ∀ d, x.drives.read d = true → s.driveOwner.read d = none)
    (freeSense : ∀ i, x.senses.read i = true → s.senseOwner.read i = none)
    (unlocked : ∀ d, s.lockSet.read d = true → x.drives.read d = false)
    (paired : ∀ d, interlocked s.settings d = true → x.drives.read (partner d) = x.drives.read d) :
    Coherent (s.assignLines a x) := by
  have drive (d : Drive) : (s.assignLines a x).driveOwner.read d =
      if x.drives.read d then some a else s.driveOwner.read d := Bank.read_build _ d
  have sense (i : Sense) : (s.assignLines a x).senseOwner.read i =
      if x.senses.read i then some a else s.senseOwner.read i := Bank.read_build _ i
  have owns (b : Agent) (t : Target) (owned : s.ownsTarget b t = true) : (s.assignLines a x).ownsTarget b t = true := by
    cases t with
    | drive d =>
      simp only [State.ownsTarget, State.ownsDrive, beq_iff_eq] at owned ⊢
      rw [drive, if_neg fun gained => by rw [free d gained] at owned; cases owned]
      exact owned
    | sense i =>
      simp only [State.ownsTarget, State.ownsSense, beq_iff_eq] at owned ⊢
      rw [sense, if_neg fun gained => by rw [freeSense i gained] at owned; cases owned]
      exact owned
    | marker => rfl
  constructor
  case driveOwners =>
    intro d b owner
    rw [drive] at owner
    split at owner
    · cases owner
      exact present
    · exact h.driveOwners d b owner
  case senseOwners =>
    intro i b owner
    rw [sense] at owner
    split at owner
    · cases owner
      exact present
    · exact h.senseOwners i b owner
  case ended => exact h.ended
  case stagedLines => exact fun b e mem => owns b _ (h.stagedLines b e mem)
  case activeLines => exact fun b e mem => owns b _ (h.activeLines b e mem)
  case unownedIdle =>
    intro d unowned
    rw [drive] at unowned
    split at unowned
    · cases unowned
    · exact h.unownedIdle d unowned
  case lockedUnowned =>
    intro d locked
    have before : s.lockSet.read d = true := locked
    rw [drive, unlocked d before]
    exact h.lockedUnowned d before
  case pairOwner =>
    intro d linked
    rw [drive, drive, paired d linked, h.pairOwner d linked]
  case interlock => exact h.interlock

theorem Coherent.takeReserve (present : (s.session a).state.present = true) (bs : List Byte) :
    Coherent (s.takeReserve a bs).1 := by
  unfold State.takeReserve
  dsimp only
  split
  · exact h
  split
  · exact h
  · next unlocked =>
    rw [Bool.not_eq_true', Bool.not_eq_false, setIsEmpty_iff] at unlocked
    refine h.assignLines present (fun d gained => ?_) (fun i gained => ?_) (fun d locked => ?_) fun d linked => ?_ <;>
      simp only [State.unowned, LineSets.filter, setFilter_read, Bool.and_eq_true, beq_iff_eq] at *
    · exact gained.2
    · exact gained.2
    · have outside := unlocked d
      rw [locked, Bool.and_true] at outside
      rw [outside, Bool.false_and]
    · rw [h.pairOwner d linked]
      exact congrArg (· && _) (expandDrives_partner _ linked)

/-- Lines of the agent that none of its entries names are given back: both or none of an interlocked pair (R45 to
R47). -/
theorem Coherent.releaseLines {x : LineSets} (own : ∀ d, x.drives.read d = true → s.driveOwner.read d = some a)
    (ownSense : ∀ i, x.senses.read i = true → s.senseOwner.read i = some a)
    (unused : ∀ d, x.drives.read d = true → (s.session a).names (.drive d) = false)
    (unusedSense : ∀ i, x.senses.read i = true → (s.session a).names (.sense i) = false)
    (paired : ∀ d, interlocked s.settings d = true → x.drives.read (partner d) = x.drives.read d) :
    Coherent (s.releaseLines x) := by
  have drive (d : Drive) : (s.releaseLines x).driveOwner.read d =
      if x.drives.read d then none else s.driveOwner.read d := Bank.read_build _ d
  have sense (i : Sense) : (s.releaseLines x).senseOwner.read i =
      if x.senses.read i then none else s.senseOwner.read i := Bank.read_build _ i
  have line (d : Drive) : (s.releaseLines x).line d = if x.drives.read d then .idle else s.line d := Bank.read_build _ d
  have high (d : Drive) (asserted : ((s.releaseLines x).line d).asserted = true) : (s.line d).asserted = true := by
    rw [line] at asserted
    split at asserted
    · cases asserted
    · exact asserted
  have owns (b : Agent) (t : Target) (owned : s.ownsTarget b t = true)
      (named : b = a → (s.session a).names t = true) : (s.releaseLines x).ownsTarget b t = true := by
    cases t with
    | drive d =>
      simp only [State.ownsTarget, State.ownsDrive, beq_iff_eq] at owned ⊢
      rw [drive, if_neg fun released => ?_]
      · exact owned
      · have same : b = a := by simpa [owned] using own d released
        exact absurd (named same) (by simp [unused d released])
    | sense i =>
      simp only [State.ownsTarget, State.ownsSense, beq_iff_eq] at owned ⊢
      rw [sense, if_neg fun released => ?_]
      · exact owned
      · have same : b = a := by simpa [owned] using ownSense i released
        exact absurd (named same) (by simp [unusedSense i released])
    | marker => rfl
  constructor
  case driveOwners =>
    intro d b owner
    rw [drive] at owner
    split at owner
    · cases owner
    · exact h.driveOwners d b owner
  case senseOwners =>
    intro i b owner
    rw [sense] at owner
    split at owner
    · cases owner
    · exact h.senseOwners i b owner
  case ended => exact h.ended
  case stagedLines =>
    intro b e mem
    refine owns b _ (h.stagedLines b e mem) fun same => ?_
    rw [Session.names, Bool.or_eq_true, List.any_eq_true]
    exact .inl ⟨e, same ▸ mem, by simp⟩
  case activeLines =>
    intro b e mem
    refine owns b _ (h.activeLines b e mem) fun same => ?_
    rw [Session.names, Bool.or_eq_true, List.any_eq_true, List.any_eq_true]
    exact .inr ⟨e, same ▸ mem, by simp⟩
  case unownedIdle =>
    intro d unowned
    rw [drive] at unowned
    rw [line]
    split
    · rfl
    · next kept =>
      rw [if_neg kept] at unowned
      exact h.unownedIdle d unowned
  case lockedUnowned =>
    intro d locked
    have before : s.lockSet.read d = true := locked
    rw [drive, h.lockedUnowned d before, ite_self]
  case pairOwner =>
    intro d linked
    rw [drive, drive, paired d linked, h.pairOwner d linked]
  case interlock => exact fun d linked both => h.interlock d linked ⟨high d both.1, high _ both.2⟩

theorem Coherent.takeRelease (bs : List Byte) : Coherent (s.takeRelease a bs).1 := by
  unfold State.takeRelease
  dsimp only
  split
  · exact h
  next own =>
  split
  · exact h
  next unused =>
  rw [Bool.not_eq_true', Bool.not_eq_false, LineSets.isEmpty_iff] at own unused
  simp only [LineSets.filter, setFilter_read, State.ownsDrive, State.ownsSense, Bool.and_eq_false_iff,
    Bool.not_eq_false', beq_iff_eq] at own unused
  obtain ⟨own, ownSense⟩ := own
  obtain ⟨unused, unusedSense⟩ := unused
  exact h.releaseLines (fun d mem => (own d).resolve_left (by simp [mem]))
    (fun i mem => (ownSense i).resolve_left (by simp [mem])) (fun d mem => (unused d).resolve_left (by simp [mem]))
    (fun i mem => (unusedSense i).resolve_left (by simp [mem])) fun d linked => expandDrives_partner _ linked

/-! ## Sessions and leases (chapter 2) -/

theorem Coherent.takeOpen (bs : List Byte) : Coherent (s.takeOpen a bs).1 := by
  unfold State.takeOpen
  dsimp only
  split
  · exact h
  · refine Coherent.notifyEach ?_ _ _ _
    exact h.setSession (.of_present rfl (h.stagedLines a) (h.activeLines a))

theorem Coherent.takeRenew (present : (s.session a).state.present = true) (bs : List Byte) :
    Coherent (s.takeRenew a bs).1 := by
  unfold State.takeRenew
  dsimp only
  split
  · exact h
  split
  · exact h
  · exact h.setSession ((h.admits a).update present rfl rfl)

theorem Coherent.takeClose (bs : List Byte) : Coherent (s.takeClose a bs).1 := by
  unfold State.takeClose
  split
  · exact h.tearDownNow a .closed rfl
  · unfold State.takeCloseAtBoundary
    dsimp only
    split
    · have closing : Coherent (s.setSession a { s.session a with state := .closing, commit := .none }) :=
        h.setSession (.of_present rfl (h.stagedLines a) (h.activeLines a))
      exact closing.leaveBallot _ a
    · exact h.tearDownNow a .closed rfl
  · exact h

/-! ## Lists and commits (chapters 4 and 5) -/

theorem Coherent.setStaging (present : (s.session a).state.present = true) {list : List Entry}
    (owned : ∀ e ∈ list, s.ownsTarget a e.target = true) : Coherent (s.setStaging a list) :=
  h.setSession (.of_present present owned (h.activeLines a))

omit h in
theorem mem_insertEntry {x e : Entry} {list : List Entry} (mem : x ∈ insertEntry e list) : x = e ∨ x ∈ list := by
  induction list with
  | nil => exact .inl (List.mem_singleton.1 mem)
  | cons y rest ih =>
    unfold insertEntry at mem
    split at mem
    · exact List.mem_cons.1 mem
    · rcases List.mem_cons.1 mem with rfl | mem
      · exact .inr (List.mem_cons_self)
      · exact (ih mem).imp_right (List.mem_cons_of_mem y)

theorem Coherent.takeStage (present : (s.session a).state.present = true) (bs : List Byte) :
    Coherent (s.takeStage a bs).1 := by
  unfold State.takeStage
  dsimp only
  split
  · exact h
  split
  · exact h
  next t f _ =>
  split
  · exact h
  next own =>
  split
  · exact h
  split
  · exact h
  split
  · exact h
  · refine h.setStaging present fun e mem => ?_
    rcases mem_insertEntry mem with rfl | mem
    · simpa using own
    · exact h.stagedLines a e mem

/-- Amended entries keep their targets (R68). -/
theorem Coherent.takeAmend (present : (s.session a).state.present = true) (bs : List Byte) :
    Coherent (s.takeAmend a bs).1 := by
  have amended (handle : Nat) (f : EntryFields) :
      Coherent (s.setStaging a (amendList (s.session a).staging handle f)) := by
    refine h.setStaging present fun e mem => ?_
    obtain ⟨x, held, rfl⟩ := List.mem_map.1 mem
    have owned := h.stagedLines a x held
    split <;> exact owned
  unfold State.takeAmend
  dsimp only
  split
  · exact h
  split
  · split
    · exact h
    split
    · exact h
    split
    · exact h
    split
    · exact h
    · exact amended _ _
  · exact h
  · exact h

theorem Coherent.takeWithdraw (present : (s.session a).state.present = true) (bs : List Byte) :
    Coherent (s.takeWithdraw a bs).1 := by
  unfold State.takeWithdraw
  dsimp only
  split
  · exact h
  split
  · exact h
  split
  · exact h
  · exact h.setStaging present fun e mem => h.stagedLines a e (List.mem_filter.1 mem).1

theorem Coherent.takeClear (present : (s.session a).state.present = true) : Coherent (s.takeClear a).1 := by
  unfold State.takeClear
  dsimp only
  split
  · exact h
  · exact h.setStaging present fun e mem => by cases mem

theorem Coherent.takeReadStaged (bs : List Byte) : Coherent (s.takeReadStaged a bs).1 := by
  unfold State.takeReadStaged
  dsimp only
  split <;> exact h

theorem Coherent.takeReadActive (bs : List Byte) : Coherent (s.takeReadActive bs).1 := by
  unfold State.takeReadActive
  split <;> exact h

theorem Coherent.exchange (present : (s.session a).state.present = true) (n : Cycle) (way : Way) :
    Coherent (s.exchange n way a) := by
  have taken : Coherent (s.setSession a
      { s.session a with active := (s.session a).staging, applied := some n, commit := .none }) :=
    h.setSession (.of_present present (h.stagedLines a) (h.stagedLines a))
  exact taken.notifyEach _ _ _

theorem Coherent.takeCommit (present : (s.session a).state.present = true) : Coherent (s.takeCommit a).1 := by
  unfold State.takeCommit
  dsimp only
  split
  · exact h
  split
  · exact h
  split
  · exact h.setSession ((h.admits a).update present rfl rfl)
  · exact h.exchange present _ _

theorem Coherent.takeAbandon (present : (s.session a).state.present = true) : Coherent (s.takeAbandon a).1 := by
  unfold State.takeAbandon
  dsimp only
  split
  · exact h
  · exact h.setSession ((h.admits a).update present rfl rfl)

/-! ## Lines (chapters 6 and 7) -/

omit h in
/-- Forcing asserts only a line that is to be forced ASSERTED and is not yet (R111). -/
theorem DriveLine.force_asserted {st : Settings} {d : Drive} {level : Bool} {l : DriveLine}
    (high : (l.force st d level).asserted = true) :
    l.asserted = true ∨ (level = true ∧ l.forcing ≠ .forcedAsserted) := by
  unfold DriveLine.force at high
  split at high
  · next level =>
    split at high
    · exact .inl high
    · next unforced => exact .inr ⟨level, unforced⟩
  · split at high
    · exact .inl high
    · simp at high

omit h in
/-- Releasing a forcing asserts no line (R112). -/
theorem DriveLine.unforce_asserted {st : Settings} {d : Drive} {l : DriveLine}
    (high : (l.unforce st d).asserted = true) : l.asserted = true := by
  unfold DriveLine.unforce at high
  split at high
  · simp at high
  · exact high
  · exact high

omit h in
theorem State.ownsDrive_owned {d : Drive} (own : s.ownsDrive a d = true) : s.driveOwner.read d ≠ none := by
  rw [State.ownsDrive, beq_iff_eq] at own
  simp [own]

theorem Coherent.takeForce (bs : List Byte) : Coherent (s.takeForce a bs).1 := by
  unfold State.takeForce
  dsimp only
  split
  · next d level _ _ =>
    split
    · exact h
    next own =>
    split
    · exact h
    next free =>
    refine h.setLine (State.ownsDrive_owned (by simpa using own)) fun high => ?_
    refine (DriveLine.force_asserted high).imp_right fun ⟨level, unforced⟩ => ?_
    simpa [level, unforced] using free
  · exact h
  · exact h

theorem Coherent.takeUnforce (bs : List Byte) : Coherent (s.takeUnforce a bs).1 := by
  unfold State.takeUnforce
  dsimp only
  split
  · exact h
  split
  · exact h
  · next own =>
    exact h.setLine (State.ownsDrive_owned (by simpa using own)) fun high => .inl (DriveLine.unforce_asserted high)

theorem Coherent.takeSetSense (bs : List Byte) : Coherent (s.takeSetSense a bs).1 := by
  unfold State.takeSetSense
  dsimp only
  split
  · exact h
  split
  · exact h
  · exact h.of_holdings rfl

theorem Coherent.takeArming (bs : List Byte) (act : Action) : Coherent (s.takeArming a bs act).1 := by
  unfold State.takeArming
  dsimp only
  split
  · exact h
  split
  · exact h
  · rw [State.serveSense_eq]
    exact h.setSenseLine _ _

theorem Coherent.takeReadCaptures (present : (s.session a).state.present = true) (bs : List Byte) :
    Coherent (s.takeReadCaptures a bs).1 := by
  unfold State.takeReadCaptures
  dsimp only
  split
  · exact h
  · exact h.setSession ((h.admits a).update present rfl rfl)

theorem Coherent.takeReadNotices (present : (s.session a).state.present = true) (bs : List Byte) :
    Coherent (s.takeReadNotices a bs).1 := by
  unfold State.takeReadNotices
  dsimp only
  split
  · exact h
  split
  · exact h.setSession ((h.admits a).update present rfl rfl)
  · exact h.setSession ((h.admits a).update present rfl rfl)

/-! ## The ballot (chapter 8) -/

/-- A proposal that locks no owned line may stand (R52, R138). -/
theorem Coherent.acceptProposal {b : OpenBallot}
    (unowned : ∀ d, b.proposal.lockSet.read d = true → s.driveOwner.read d = none) :
    Coherent (s.acceptProposal b) := by
  have opened : Coherent (s.openSlot b) := by
    refine h.withBallot fun p stands => ?_
    obtain rfl : b.proposal = p := by simpa [Slot.proposal?] using stands
    exact unowned
  unfold State.acceptProposal
  dsimp only
  split
  · exact (opened.passBallot _ rfl).applyIfIdle
  · exact opened.notifyEach _ _ _

theorem Coherent.takePropose (bs : List Byte) : Coherent (s.takePropose a bs).1 := by
  unfold State.takePropose State.proposeOnEmpty
  dsimp only
  split
  · exact h
  split
  · exact h
  split
  · exact h
  split
  · exact h
  split
  · exact h
  split
  · exact h
  · next unreserved =>
    rw [Bool.not_eq_true', Bool.not_eq_false, setIsEmpty_iff] at unreserved
    refine h.acceptProposal fun d locks => ?_
    have free := unreserved d
    rw [State.reservedLines, setFilter_read, show (proposalOf (bs.drop 1)).lockSet.read d = true from locks,
      Bool.true_and] at free
    simpa using free

theorem Coherent.takeVote (bs : List Byte) : Coherent (s.takeVote a bs).1 := by
  unfold State.takeVote
  dsimp only
  split
  · exact h
  split
  · exact h
  next b named =>
  have stands := State.openNumbered_proposal named
  unfold State.voteOn State.acceptVote
  split
  · exact h
  split
  · exact h
  split
  · exact (h.holdOrPass _ (b := { b with accepted := b.accepted.write a true }) stands).applyIfIdle
  · exact h.failBallot _ _ _

theorem Coherent.takeRetract (bs : List Byte) : Coherent (s.takeRetract a bs).1 := by
  unfold State.takeRetract
  split
  · exact h
  split
  · exact h
  · exact h.failBallot _ _ _

/-! ## Every command, and every step -/

theorem Coherent.take (bs : List Byte) {c : Command} (admitted : (c.row bs).refusal (s.session a).state = none) :
    Coherent (s.take a bs c).1 := by
  have present := Command.present_of_admitted admitted
  cases c
  case openSession => exact h.takeOpen bs
  case close => exact h.takeClose bs
  case renew => exact h.takeRenew (present (by decide) (by decide)) bs
  case status => exact h
  case reserve => exact h.takeReserve (present (by decide) (by decide)) bs
  case release => exact h.takeRelease bs
  case stageEntry => exact h.takeStage (present (by decide) (by decide)) bs
  case amendEntry => exact h.takeAmend (present (by decide) (by decide)) bs
  case withdrawEntry => exact h.takeWithdraw (present (by decide) (by decide)) bs
  case clearStaging => exact h.takeClear (present (by decide) (by decide))
  case readStaged => exact h.takeReadStaged bs
  case readActive => exact h.takeReadActive bs
  case commit => exact h.takeCommit (present (by decide) (by decide))
  case abandon => exact h.takeAbandon (present (by decide) (by decide))
  case forceLine => exact h.takeForce bs
  case unforceLine => exact h.takeUnforce bs
  case setSense => exact h.takeSetSense bs
  case armSense => exact h.takeArming bs .arm
  case disarmSense => exact h.takeArming bs .disarm
  case readCaptures => exact h.takeReadCaptures (present (by decide) (by decide)) bs
  case propose => exact h.takePropose bs
  case vote => exact h.takeVote bs
  case retract => exact h.takeRetract bs
  case readSettings => exact h
  case readBallot => exact h
  case readNotices => exact h.takeReadNotices (present (by decide) (by decide)) bs

end

theorem stepInvariant_coherent : StepInvariant Coherent where
  blocks h same := by
    simp only [State.blocks, Blocks.mk.injEq] at same
    obtain ⟨settings, -, ballot, driveOwner, senseOwner, drive, -, sessions⟩ := same
    exact h.of_holdings (by simp only [State.holdings, settings, ballot, driveOwner, senseOwner, drive, sessions])
  reset := coherent_reset
  renewLease a h := h.renewLease a
  take a bs c admitted h := h.take bs admitted
  resetSession a h := h.resetSession a
  advanceCount h := h.advanceCount
  takeTriggerEdge h := h.takeTriggerEdge
  takeGateChange level h := h.takeGateChange level
  takeEdge i e h := h.takeEdge i e
  lowerLeases h := h.lowerLeases
  expireLease a h := h.expireLease a
  expireDeadline h := h.expireDeadline
  runOutBudget h := h.runOutBudget
  endPulse d h := h.endPulse d
  endGuard d h := h.endGuard d
  sampleLines levels h := h.of_holdings rfl
  tickDivider h := h.tickDivider
  tickLease h := h.tickLease

/-- Settles O5: every operation on the blocks keeps them coherent, so every step does. -/
theorem stepKeepsCoherence : Obligations.StepKeepsCoherence := by
  unfold Obligations.StepKeepsCoherence
  exact fun s t h stepped => stepInvariant_coherent.step h stepped

end Sys2Proof.Machine
end

section
/-! SUPPORT. The tables that a frame is checked against (O11), and the row of a frame that passes or fails its
checks. -/

namespace Sys2Proof.Machine

/-! ## Codes and lengths (sections 11.2 and 11.3) -/

theorem Command.code_of_ofCode {b : Byte} {c : Command} (named : Command.ofCode b = some c) : c.code = b := by
  have all : ∀ b : Byte, (Command.ofCode b).all (fun c => c.code == b) = true := by decide
  have checked := all b
  rw [named] at checked
  simpa using checked

theorem Command.ofCode_isSome (b : Byte) : (Command.ofCode b).isSome = codeIsCommand b := by
  revert b
  decide

/-- No permitted payload length is above 60 (R164). -/
theorem Command.length_le {c : Command} {k : Nat} (permitted : k ∈ c.lengths) : k ≤ 60 := by
  have all : ∀ k ∈ c.lengths, k ≤ 60 := by cases c <;> decide
  exact all k permitted

/-! ## The checks of R166, in their order -/

theorem frameRefusal_of_length (c : Command) {bs : List Byte} (permitted : bs.length ∈ c.lengths) (q : SessionState) :
    frameRefusal c.code bs q = (c.row bs).refusal q := by
  rw [frameRefusal, Command.ofCode_code]
  exact if_pos (by simpa using permitted)

theorem frameRefusal_of_badLength (c : Command) {bs : List Byte} (bad : bs.length ∉ c.lengths) (q : SessionState) :
    frameRefusal c.code bs q = some .badFrame := by
  rw [frameRefusal, Command.ofCode_code]
  exact if_neg (by simpa using bad)

/-! ## The rows of R22 -/

theorem Command.row_close_atBoundary {bs : List Byte} (mode : byteAt bs 0 = 1) : Command.close.row bs = .whileOpen :=
  if_pos mode

theorem Command.row_close_other {bs : List Byte} (mode : byteAt bs 0 ≠ 1) : Command.close.row bs = .whilePresent :=
  if_neg mode

theorem AdmissionRow.opening_refusal (q : SessionState) :
    AdmissionRow.opening.refusal q = if q.present then some .alreadyOpen else none := by
  cases q <;> rfl

theorem AdmissionRow.whilePresent_refusal {q : SessionState} (present : q.present = true) :
    AdmissionRow.whilePresent.refusal q = none := by
  cases q
  case openState | closing => rfl
  case closed | expired => cases present

/-- Settles O11: codes and lengths by the table, the order of the checks by `frameRefusal`, and R22 by the row of each
command. -/
theorem frameChecksFollowTheTables : Obligations.FrameChecksFollowTheTables := by
  unfold Obligations.FrameChecksFollowTheTables
  refine ⟨by decide, Command.ofCode_code, fun b c => Command.code_of_ofCode, Command.ofCode_isSome,
    fun code bs q => ⟨fun other => frameRefusal_unknown other bs q, ?_⟩, fun bs => ⟨?_, ?_, ?_, ?_⟩⟩
  · rintro c rfl
    exact ⟨fun bad => frameRefusal_of_badLength c bad q, fun permitted => frameRefusal_of_length c permitted q⟩
  · exact AdmissionRow.opening_refusal
  · exact fun q => rfl
  · intro c listed
    have row : c.row bs = .whilePresent := by
      rcases listed with rfl | rfl | rfl | rfl | rfl | rfl | ⟨rfl, mode⟩
      rotate_right
      · exact Command.row_close_other mode
      all_goals rfl
    rw [row]
    exact ⟨rfl, rfl, rfl, rfl⟩
  · intro c listed
    have row : c.row bs = .whileOpen := by
      rcases listed with rfl | rfl | rfl | rfl | rfl | rfl | rfl | rfl | rfl | rfl | rfl | rfl | rfl | rfl | rfl | rfl
        | rfl | ⟨rfl, mode⟩
      rotate_right
      · exact Command.row_close_atBoundary mode
      all_goals rfl
    rw [row]
    exact ⟨rfl, rfl, rfl, rfl⟩

/-! ## A row whose frame reaches its owning block, or does not -/

section

variable {i : Instr} {p : Agent} {tag : Byte} {bs : List Byte} {c : Command} {s : State}

/-- The row of a command that passes its checks: the owning block takes it, after the lease renewal, and the response
joins the queue. -/
theorem exec_taken (frame : i.frame? = some ⟨p, c.code, tag, bs⟩) (accepts : s.Accepts p)
    (permitted : bs.length ∈ c.lengths) (admitted : (c.row bs).refusal (s.session p).state = none) :
    exec i s = .next ((((s.settle p).renewLease p).take p bs c).1.respond p
      ⟨tag, c.code, (((s.settle p).renewLease p).take p bs c).2.status,
        (((s.settle p).renewLease p).take p bs c).2.data⟩) := by
  rw [exec_frame frame]
  exact congrArg _ (State.takeFrame_taken c tag accepts (Command.length_le permitted)
    ((frameRefusal_of_length c permitted _).trans admitted))

/-- The same, where what the block does and answers is known. -/
theorem exec_answers (frame : i.frame? = some ⟨p, c.code, tag, bs⟩) (accepts : s.Accepts p)
    (permitted : bs.length ∈ c.lengths) (admitted : (c.row bs).refusal (s.session p).state = none)
    {t : State} {r : Reply}
    (takes : ((s.settle p).renewLease p).take p bs c = (t, r)) :
    exec i s = .next (t.respond p ⟨tag, c.code, r.status, r.data⟩) := by
  rw [exec_taken frame accepts permitted admitted, takes]

/-- A payload of a length that is not permitted is BAD_FRAME. -/
theorem exec_badLength (frame : i.frame? = some ⟨p, c.code, tag, bs⟩)
    (accepts : s.Accepts p) (fits : bs.length ≤ 60)
    (bad : bs.length ∉ c.lengths) : exec i s = .next (s.answered p ⟨tag, c.code, .badFrame, .none⟩) := by
  rw [exec_frame frame]
  exact congrArg _ (State.takeFrame_refused tag accepts fits (frameRefusal_of_badLength c bad _))

end

end Sys2Proof.Machine
end

section
/-! SUPPORT. OPEN, RENEW, STATUS and CLOSE (R26 to R30, R168): what the session table does with each, and the statements
on their frames (O14 to O18). -/

namespace Sys2Proof.Machine

/-! ## The session renewed (R23) -/

theorem Session.renew_of_absent {q : Session} (absent : q.state.present = false) : q.renew = q := by
  simp [Session.renew, absent]

theorem Session.renew_of_lease {q : Session} {l : Lease} (present : q.state.present = true) (lease : q.lease = some l) :
    q.renew = { q with lease := some ⟨l.interval, l.interval⟩ } := by
  simp [Session.renew, present, lease]

section

variable {s : State} {p : Agent}

@[simp] theorem State.settled_session_self : ((s.settle p).renewLease p).session p = (s.session p).renew := by
  rw [State.settled_session, if_pos rfl]

theorem State.settled_sessions :
    ((s.settle p).renewLease p).sessions = s.sessions.write p (s.session p).renew := rfl

/-! ## OPEN (R26, R27) -/

/-- The record that an accepted OPEN leaves. -/
def Session.opened (q : Session) (ms : Nat) : Session :=
  { q with state := .openState, epoch := q.epoch + 1, lease := some ⟨ms, ms⟩, commit := .none }

theorem State.takeOpen_opens {steps : Byte} (ne : steps ≠ 0) : s.takeOpen p [steps] =
    ((s.setSession p ((s.session p).opened (10 * steps.toNat))).notifyOthers s.time.cycle
      (.peerJoined p ((s.session p).epoch + 1)) p, ⟨.ok, .opened p ((s.session p).epoch + 1)⟩) := by
  have some : byteAt [steps] 0 ≠ 0 := fun none => ne (BitVec.eq_of_toNat_eq none)
  unfold State.takeOpen
  dsimp only
  rw [if_neg some]
  rfl

theorem State.takeOpen_zero : s.takeOpen p [0] = (s, refuse .badArgument) := rfl

/-- One session starts, and every other that goes on is told. -/
theorem State.sessions_opened (q : Session) (n : Cycle) (k : NoticeKind) :
    ((((s.settle p).renewLease p).setSession p q).notifyOthers n k p).sessions = Bank.build fun b =>
      if b = p then q else if (s.session b).state.present then (s.session b).offer ⟨k, n⟩ else s.session b := by
  refine congrArg Bank.build (funext fun b => ?_)
  rw [State.session_setSession]
  by_cases own : b = p
  · simp [own]
  · have other : ((s.settle p).renewLease p).session b = s.session b := by rw [State.settled_session, if_neg own]
    simp [own, other]

/-- Settles O14: the session table's OPEN, on a session that has ended and so is not renewed. -/
theorem openStartsASession : Obligations.OpenStartsASession := by
  unfold Obligations.OpenStartsASession
  intro p tag steps s accepts absent
  have row : Command.openSession.row [steps] = .opening := rfl
  have admitted : (Command.openSession.row [steps]).refusal (s.session p).state = none := by
    rw [row, AdmissionRow.opening_refusal, absent]
    rfl
  have unrenewed : ((s.settle p).renewLease p).session p = s.session p := by
    rw [State.settled_session_self, Session.renew_of_absent absent]
  refine ⟨fun ne => ?_, fun zero => ?_⟩
  · have takes := State.takeOpen_opens (s := (s.settle p).renewLease p) (p := p) ne
    rw [unrenewed] at takes
    rw [exec_answers rfl accepts (List.mem_singleton.2 rfl) admitted takes]
    refine congrArg Host.Outcome.next ?_
    have sessions := State.sessions_opened (s := s) (p := p) ((s.session p).opened (10 * steps.toNat)) s.time.cycle
      (.peerJoined p ((s.session p).epoch + 1))
    exact congrArg (fun b => { s.answered p ⟨tag, 0x01, .ok, .opened p ((s.session p).epoch + 1)⟩ with sessions := b })
      sessions
  · subst zero
    exact exec_answers rfl accepts (by decide) admitted (State.takeOpen_zero (p := p))

/-! ## RENEW (R28) -/

theorem State.takeRenew_keeps {l : Lease} (lease : (s.session p).lease = some l) :
    s.takeRenew p [] = (s, ⟨.ok, .leaseInterval l.interval⟩) := by
  simp [State.takeRenew, Session.leaseInterval, lease]

theorem State.takeRenew_sets {steps : Byte} (ne : steps ≠ 0) : s.takeRenew p [steps] =
    (s.setSession p { s.session p with lease := some ⟨10 * steps.toNat, 10 * steps.toNat⟩ },
      ⟨.ok, .leaseInterval (10 * steps.toNat)⟩) := by
  have some : byteAt [steps] 0 ≠ 0 := fun none => ne (BitVec.eq_of_toNat_eq none)
  unfold State.takeRenew
  dsimp only
  rw [if_neg (by simp), if_neg some]
  rfl

theorem State.takeRenew_zero : s.takeRenew p [0] = (s, refuse .badArgument) := rfl

/-- Settles O15: the renewal on admission sets lease remaining, and a new interval is written over it. -/
theorem renewKeepsOrSetsTheInterval : Obligations.RenewKeepsOrSetsTheInterval := by
  unfold Obligations.RenewKeepsOrSetsTheInterval
  intro p tag steps l s accepts present lease
  have admitted (bs : List Byte) : (Command.renew.row bs).refusal (s.session p).state = none :=
    AdmissionRow.whilePresent_refusal present
  have renewed : ((s.settle p).renewLease p).session p =
      { s.session p with lease := some ⟨l.interval, l.interval⟩ } := by
    rw [State.settled_session_self, Session.renew_of_lease present lease]
  have sessions : ((s.settle p).renewLease p).sessions =
      s.sessions.write p { s.session p with lease := some ⟨l.interval, l.interval⟩ } := by
    rw [State.settled_sessions, Session.renew_of_lease present lease]
  have answered (r : Response) : ((s.settle p).renewLease p).respond p r = { s.answered p r with
      sessions := s.sessions.write p { s.session p with lease := some ⟨l.interval, l.interval⟩ } } := by
    rw [← sessions]
    rfl
  refine ⟨?_, fun ne => ?_, fun zero => ?_⟩
  · have kept : (((s.settle p).renewLease p).session p).lease = some ⟨l.interval, l.interval⟩ := by rw [renewed]
    rw [exec_answers rfl accepts (by decide) (admitted []) (State.takeRenew_keeps kept)]
    exact congrArg Host.Outcome.next (answered _)
  · have takes := State.takeRenew_sets (s := (s.settle p).renewLease p) (p := p) ne
    rw [renewed] at takes
    rw [exec_answers rfl accepts (by simp [Command.lengths]) (admitted [steps]) takes]
    refine congrArg Host.Outcome.next ?_
    have written : ((s.settle p).renewLease p).sessions.write p
        { s.session p with lease := some ⟨10 * steps.toNat, 10 * steps.toNat⟩ } =
        s.sessions.write p { s.session p with lease := some ⟨10 * steps.toNat, 10 * steps.toNat⟩ } := by
      rw [sessions, Bank.write_write]
    rw [← written]
    rfl
  · subst zero
    rw [exec_answers rfl accepts (by decide) (admitted [0]) (State.takeRenew_zero (p := p))]
    exact congrArg Host.Outcome.next (answered _)

/-! ## STATUS (R168) -/

/-- Settles O16: STATUS passes R22 in every session state, and reads a session that the renewal left as it reports
it. -/
theorem statusReportsInEverySessionState : Obligations.StatusReportsInEverySessionState := by
  unfold Obligations.StatusReportsInEverySessionState
  intro p tag s accepts
  have takes : ((s.settle p).renewLease p).takeStatus p = ((s.settle p).renewLease p,
      ⟨.ok, .statusReport (s.session p).state (s.session p).epoch s.time.run s.time.cycle s.time.count
        s.ballot.slot.state s.ballot.number⟩) := by
    simp [State.takeStatus]
  refine ⟨?_, fun bs some fits => ?_, Session.renew_of_absent, fun l => Session.renew_of_lease⟩
  · exact exec_answers (c := .status) rfl accepts (by decide) rfl takes
  · exact exec_badLength (c := .status) rfl accepts fits (by simpa [Command.lengths] using some)

/-! ## CLOSE (R22, R29, R30) -/

theorem State.takeClose_now : s.takeClose p [0] =
    (s.tearDownNow p .closed .closed, ⟨.ok, .closed .closed (s.session p).commit.isPending⟩) := rfl

theorem State.takeClose_other {mode : Byte} (other : 2 ≤ mode.toNat) :
    s.takeClose p [mode] = (s, refuse .badArgument) := by
  have byte : byteAt [mode] 0 = mode.toNat := rfl
  unfold State.takeClose
  rw [byte]
  split
  · next now => omega
  · next atBoundary => omega
  · rfl

/-- Settles O17: the rows of mode NOW and of the modes that are neither, as the session table takes them. -/
theorem closeNowTearsDown : Obligations.CloseNowTearsDown := by
  unfold Obligations.CloseNowTearsDown
  intro p tag mode s accepts present
  have admitted (other : byteAt [mode] 0 ≠ 1) : (Command.close.row [mode]).refusal (s.session p).state = none := by
    rw [Command.row_close_other other]
    exact AdmissionRow.whilePresent_refusal present
  refine ⟨fun now => ?_, fun other => ?_⟩
  · subst now
    rw [exec_answers rfl accepts (by decide) (admitted (by decide)) State.takeClose_now, State.settled_session_self,
      Session.renew_commit]
    rfl
  · have otherMode : byteAt [mode] 0 ≠ 1 := by
      change mode.toNat ≠ 1
      omega
    exact exec_answers (c := .close) rfl accepts (List.mem_singleton.2 rfl) (admitted otherMode)
      (State.takeClose_other other)

theorem State.takeClose_atBoundary_running (run : s.time.run.isRunning = true) : s.takeClose p [1] =
    ((s.setSession p { s.session p with state := .closing, commit := .none }).leaveBallot s.time.cycle p,
      ⟨.ok, .closed .closing (s.session p).commit.isPending⟩) := by
  show s.takeCloseAtBoundary p = _
  rw [State.takeCloseAtBoundary, if_pos run]

theorem State.takeClose_atBoundary_idle (run : s.time.run.isRunning = false) : s.takeClose p [1] =
    (s.tearDownNow p .closed .closed, ⟨.ok, .closed .closed (s.session p).commit.isPending⟩) := by
  show s.takeCloseAtBoundary p = _
  rw [State.takeCloseAtBoundary, if_neg (by rw [run]; decide)]

/-- Settles O18: the row of mode AT_BOUNDARY, by whether the time base runs. -/
theorem closeAtBoundaryWaitsForTheBoundary : Obligations.CloseAtBoundaryWaitsForTheBoundary := by
  unfold Obligations.CloseAtBoundaryWaitsForTheBoundary
  intro p tag s accepts openState
  have admitted : (Command.close.row [1]).refusal (s.session p).state = none := by
    rw [Command.row_close_atBoundary rfl, openState]
    rfl
  refine ⟨fun run => ?_, fun run => ?_⟩
  · rw [exec_answers rfl accepts (by decide) admitted (State.takeClose_atBoundary_running run),
      State.settled_session_self, Session.renew_commit]
    rfl
  · rw [exec_answers rfl accepts (by decide) admitted (State.takeClose_atBoundary_idle run),
      State.settled_session_self, Session.renew_commit]
    rfl

end

end Sys2Proof.Machine
end

section
/-! SUPPORT. The ends of a session (R24, R29, R32, R36): what a teardown leaves of every block (O19), PORT_RESET (O21), and
the expiries of leases and of the ballot's deadline (O22). -/

namespace Sys2Proof.Machine

variable {s : State}

/-! ## Notices that pass by an ended session (R154) -/

/-- Where the one session left out has ended, a notice to the others is a notice to all. -/
theorem State.notifyOthers_of_absent {a : Agent} (absent : (s.session a).state.present = false) (n : Cycle)
    (k : NoticeKind) : s.notifyOthers n k a = { s with sessions := Bank.build fun b =>
      if (s.session b).state.present then (s.session b).offer ⟨k, n⟩ else s.session b } := by
  refine congrArg (fun q => { s with sessions := Bank.build q }) (funext fun b => ?_)
  by_cases own : b = a
  · simp [own, absent]
  · simp [own]

/-! ## Leaving a ballot (R146) -/

theorem State.leaveBallot_of_not_open (n : Cycle) (a : Agent) (closed : ∀ b, s.ballot.slot ≠ .openSlot b) :
    s.leaveBallot n a = s := by
  unfold State.leaveBallot
  split
  · next b slot => exact absurd slot (closed b)
  · rfl
  · rfl

/-- The last elector who had not accepted leaves. -/
theorem State.leaveBallot_passes (n : Cycle) {a : Agent} {b : OpenBallot} (slot : s.ballot.slot = .openSlot b)
    (other : b.proposer ≠ a) (elector : b.electorate.read a = true)
    (complete : b.accepted.write a false = b.electorate.write a false) :
    s.leaveBallot n a = s.passBallot n { b with
      electorate := b.electorate.write a false
      accepted := b.accepted.write a false } := by
  rw [State.leaveBallot, slot]
  dsimp only
  rw [if_neg other, if_pos elector, State.holdOrPass, if_pos complete]

/-- An ended session is told nothing of a ballot that closes (R147, R154). -/
theorem State.leaveBallot_session_of_absent (n : Cycle) (b : Agent) {a : Agent}
    (absent : (s.session a).state.present = false) : (s.leaveBallot n b).session a = s.session a := by
  obtain ⟨k, who, ballot, left, -⟩ := s.leaveBallot_cases n b
  rw [left]
  refine (s.session_notifyEach n k who a).trans ?_
  simp [absent]

/-! ## Teardown (R32, R33) -/

/-- The state without what agent `a` held: its lines cleared and unowned, its session record empty but for the epoch. -/
def State.bare (s : State) (a : Agent) (after : SessionState) : State :=
  { s with
    driveOwner := Bank.build fun d => if s.driveOwner.read d = some a then none else s.driveOwner.read d
    senseOwner := Bank.build fun i => if s.senseOwner.read i = some a then none else s.senseOwner.read i
    drive := Bank.build fun d => if s.driveOwner.read d = some a then ⟨false, .free, none, none, 0⟩ else s.line d
    sense := Bank.build fun i =>
      if s.senseOwner.read i = some a then { s.senseLine i with armed := false, counter := 0 } else s.senseLine i
    sessions := s.sessions.write a
      ⟨after, (s.session a).epoch, none, .none, [], [], none, [], 0, Bank.fill 8 0, 0, false, [], 0, none⟩ }

theorem State.vacate_clearLines (a : Agent) (after : SessionState) :
    (s.clearLines a).vacate a after = s.bare a after := by
  unfold State.clearLines State.bare
  simp only [State.ownsDrive, State.ownsSense, beq_iff_eq]
  rfl

theorem State.tearDown_eq (n : Cycle) (a : Agent) (after : SessionState) (reason : LeaveReason) :
    s.tearDown n a after reason =
      ((s.bare a after).leaveBallot n a).notifyOthers n (.peerLeft a (s.session a).epoch reason) a := by
  rw [State.tearDown, State.vacate_clearLines]

theorem State.session_bare_self (a : Agent) (after : SessionState) :
    (s.bare a after).session a = .vacant after (s.session a).epoch := Bank.read_write_self _ _ _

theorem State.session_bare_of_ne {a b : Agent} (after : SessionState) (other : b ≠ a) :
    (s.bare a after).session b = s.session b := Bank.read_write_of_ne _ _ other

section

variable (n : Cycle) (a : Agent) {after : SessionState} (reason : LeaveReason) (departs : after.present = false)
include departs

theorem State.bare_absent : ((s.bare a after).session a).state.present = false := by
  rw [State.session_bare_self]
  exact departs

theorem State.session_bare_leaveBallot :
    ((s.bare a after).leaveBallot n a).session a = (s.bare a after).session a :=
  State.leaveBallot_session_of_absent n a (State.bare_absent a departs)

/-- PEER_LEFT is offered to every session that goes on, after the notices of the ballot (R33). -/
theorem State.tearDown_tells : s.tearDown n a after reason = { (s.bare a after).leaveBallot n a with
    sessions := Bank.build fun b =>
      if (((s.bare a after).leaveBallot n a).session b).state.present then
        (((s.bare a after).leaveBallot n a).session b).offer ⟨.peerLeft a (s.session a).epoch reason, n⟩
      else ((s.bare a after).leaveBallot n a).session b } := by
  rw [State.tearDown_eq, State.notifyOthers_of_absent]
  rw [State.session_bare_leaveBallot n a departs]
  exact State.bare_absent a departs

/-- Where no ballot is OPEN, the agent's leaving concerns none. -/
theorem State.tearDown_of_not_open (closed : ∀ b, s.ballot.slot ≠ .openSlot b) :
    s.tearDown n a after reason = { s.bare a after with
      sessions := Bank.build fun b =>
        if b = a then .vacant after (s.session a).epoch
        else if (s.session b).state.present then
          (s.session b).offer ⟨.peerLeft a (s.session a).epoch reason, n⟩
        else s.session b } := by
  rw [State.tearDown_tells n a reason departs, State.leaveBallot_of_not_open n a (s := s.bare a after) closed]
  refine congrArg (fun q => { s.bare a after with sessions := Bank.build q }) (funext fun b => ?_)
  by_cases own : b = a
  · have gone : (Session.vacant after (s.session a).epoch).state.present = false := departs
    rw [if_pos own, own, State.session_bare_self, gone]
    rfl
  · rw [if_neg own, State.session_bare_of_ne after own]

omit departs in
/-- A teardown leaves the ballot that the agent's leaving leaves. -/
theorem State.tearDown_ballot :
    (s.tearDown n a after reason).ballot = ((s.bare a after).leaveBallot n a).ballot := by
  rw [State.tearDown_eq]
  rfl

end

/-- An immediate application takes the settings of the ballot and empties its slot (R148, R149). -/
theorem State.applyIfIdle_applies {b : Agent} {p : Proposal} (passed : s.ballot.slot = .passed b p)
    (idle : s.time.run.isRunning = false) :
    s.applyIfIdle.settings = s.settings.updated p ∧ s.applyIfIdle.ballot = { s.ballot with slot := .empty } := by
  obtain ⟨-, -, applies⟩ := immediateApplicationStartsAndTells s _ rfl
  obtain ⟨u, v, w, -, -, -, emptied, told, settings⟩ := applies b p passed idle
  refine ⟨settings, ?_⟩
  rw [told, emptied]
  split <;> rfl

/-- Settles O19: `State.tearDown_tells`, and the application of a ballot that passes (`State.applyIfIdle_applies`). -/
theorem teardownTakesBackEverything : Obligations.TeardownTakesBackEverything := by
  unfold Obligations.TeardownTakesBackEverything
  intro n a after reason s departs
  have torn := s.tornDown_tearDown s.time.cycle a reason departs
  obtain ⟨unpassed, running, -⟩ := immediateApplicationStartsAndTells (s.tearDown s.time.cycle a after reason) _ rfl
  refine ⟨?blocks, State.tearDown_of_not_open n a reason departs, rfl, fun run => ?_, fun idle => ⟨?passes, unpassed⟩⟩
  case blocks =>
    rintro bare left rfl rfl
    exact ⟨State.tearDown_tells n a reason departs, State.session_bare_leaveBallot n a departs⟩
  · exact running (by rw [torn.time]; exact run)
  case passes =>
    intro b slot other elector complete
    have ballot : (s.tearDown s.time.cycle a after reason).ballot =
        ⟨s.ballot.number, .passed b.proposer b.proposal, some ⟨s.ballot.number, .passed⟩⟩ := by
      rw [State.tearDown_ballot, State.leaveBallot_passes _ (s := s.bare a after) slot other elector complete]
      rfl
    obtain ⟨settings, emptied⟩ := State.applyIfIdle_applies (s := s.tearDown s.time.cycle a after reason)
      (by rw [ballot]) (by rw [torn.time]; exact idle)
    rw [torn.settings] at settings
    rw [ballot] at emptied
    exact ⟨settings, emptied⟩

/-! ## PORT_RESET (R36, R169) -/

/-- Settles O21: the row and the byte are the same transaction byte, taken by a port that waits for it. -/
theorem portResetClearsPortAndSession : Obligations.PortResetClearsPortAndSession := by
  unfold Obligations.PortResetClearsPortAndSession
  intro p s live command pin
  have row : exec (.portReset p) s = .next
      ((s.setPort p ⟨(s.port p).selected, .done, [], .none, some 0⟩).resetSession p) :=
    congrArg Host.Outcome.next (State.transactionByte_command live pin command 0xC3)
  refine ⟨fun present => ?_, fun absent => ?_, ?_⟩
  · rw [row, State.resetSession, if_pos (by exact present)]
  · rw [row, State.resetSession, if_neg (by rw [State.session_setPort, absent]; decide)]
    rfl
  · have moved : s.moveByte p 0xC3 = s.useByte p 0xC3 := by rw [State.moveByte, command]
    have byte := State.shiftByte_seen 0xC3 live pin (by rw [command]; decide)
    have same : s.shiftByte p 0xC3 = s.transactionByte p 0xC3 := by
      rw [byte, moved, State.transactionByte_command live pin command]
    exact congrArg Host.Outcome.next same

/-! ## Expiries (R24, R144) -/

theorem Session.leaseOut_iff (q : Session) :
    q.leaseOut = true ↔ q.state.present = true ∧ ∃ l, q.lease = some l ∧ l.remaining = 0 := by
  cases lease : q.lease <;> simp [Session.leaseOut, lease]

/-- A ballot that fails is told to its proposer and its electors, and leaves the slot EMPTY (R147). -/
theorem State.failBallot_eq (n : Cycle) (b : OpenBallot) (reason : FailReason) : s.failBallot n b reason =
    { s with
      ballot := ⟨s.ballot.number, .empty, some ⟨s.ballot.number, .failed reason⟩⟩
      sessions := Bank.build fun a =>
        if (a = b.proposer ∨ b.electorate.read a = true) ∧ (s.session a).state.present = true then
          (s.session a).offer ⟨.ballotClosed s.ballot.number (.failed reason), n⟩
        else s.session a } := by
  unfold State.failBallot State.notifyClosed State.notifyEach
  simp only [Bool.and_eq_true, Bool.or_eq_true, beq_iff_eq]

theorem State.expireDeadline_of_out {b : OpenBallot} (slot : s.ballot.slot = .openSlot b) (out : b.deadline = 0) :
    s.expireDeadline = s.failBallot s.time.cycle b .deadline := by
  rw [State.expireDeadline, slot]
  exact if_pos out

theorem State.expireDeadline_of_not_out (runs : s.deadlineOut = false) : s.expireDeadline = s := by
  unfold State.expireDeadline
  split
  · next b slot =>
    rw [State.deadlineOut, slot] at runs
    exact if_neg (by simpa using runs)
  · rfl
  · rfl

/-- Settles O22: each row takes its event, and the expiry acts where a value stands at 0. -/
theorem expiriesEndSessionsAndBallots : Obligations.ExpiriesEndSessionsAndBallots := by
  unfold Obligations.ExpiriesEndSessionsAndBallots
  refine ⟨fun a s live => ⟨fun out => ?_, fun runs => ?_, (s.session a).leaseOut_iff⟩,
    fun s live => ⟨fun b slot out => ?_, fun runs => ?_⟩⟩
  · have expires : (s.taken (.leaseExpiry a)).expireLease a =
        (s.taken (.leaseExpiry a)).tearDownNow a .expired .expired := if_pos out
    exact (State.exec_row live (.leaseExpiry a)).trans (congrArg _ expires)
  · have stays : (s.taken (.leaseExpiry a)).expireLease a = s.taken (.leaseExpiry a) :=
      if_neg (by rw [State.taken_session, runs]; decide)
    exact (State.exec_row live (.leaseExpiry a)).trans (congrArg _ stays)
  · have fails : (s.taken .deadlineExpiry).expireDeadline = _ :=
      (State.expireDeadline_of_out (s := s.taken .deadlineExpiry) slot out).trans (State.failBallot_eq _ _ _)
    exact (State.exec_row live .deadlineExpiry).trans (congrArg _ fails)
  · have stays : (s.taken .deadlineExpiry).expireDeadline = s.taken .deadlineExpiry :=
      State.expireDeadline_of_not_out (s := s.taken .deadlineExpiry) runs
    exact (State.exec_row live .deadlineExpiry).trans (congrArg _ stays)

end Sys2Proof.Machine
end

section
/-! SUPPORT. The line ownership table (chapter 3): the set that RESERVE and RELEASE act on (R40), what each does with
it, and the statements on their frames (O24, O25). -/

namespace Sys2Proof.Machine

/-! ## The expanded set (R40) -/

/-- Two sets that hold the same lines are equal. -/
theorem LineSets.ext_read {x y : LineSets} (drives : ∀ d, x.drives.read d = y.drives.read d)
    (senses : ∀ i, x.senses.read i = y.senses.read i) : x = y := by
  obtain ⟨xd, xs⟩ := x
  obtain ⟨yd, ys⟩ := y
  exact congrArg₂ LineSets.mk (Bank.ext_read drives) (Bank.ext_read senses)

/-- Two bytes of a payload, the most significant first, are one word. -/
theorem halfAt_cons (b0 b1 : Byte) (bs : List Byte) : halfAt (b0 :: b1 :: bs) 0 = (b0 ++ b1 : Half).toNat := by
  rw [BitVec.toNat_append, ← Nat.shiftLeft_add_eq_or_of_lt b1.isLt, Nat.shiftLeft_eq, Nat.mul_comm]
  rfl

/-- What a payload of RESERVE or RELEASE acts on. -/
theorem State.expand_lineSetsOf {s : State} {b0 b1 b2 : Byte} {x : LineSets}
    (drives : ∀ d : Drive, x.drives.read d = ((b0 ++ b1 : Half).getLsbD d.val
      || (interlocked s.settings d && (b0 ++ b1 : Half).getLsbD (partner d).val)))
    (senses : ∀ i : Sense, x.senses.read i = b2.getLsbD i.val) : s.expand (lineSetsOf [b0, b1, b2]) = x := by
  refine LineSets.ext_read (fun d => ?_) fun i => ?_
  · simp only [drives, State.expand, expandDrives, lineSetsOf, driveSetAt, halfAt_cons, Bank.read_build]
    rfl
  · simp only [senses, State.expand, lineSetsOf, senseSetAt, Bank.read_build]
    rfl

section

variable {s : State} {p : Agent} {bs : List Byte} {x : LineSets}

/-! ## RESERVE (R41, R42) -/

theorem ownedByOther_eq (p : Agent) (o : Option Agent) : ownedByOther p o = (o != none && o != some p) := by
  cases o <;> rfl

theorem ownedByOther_eq_false_iff (p : Agent) (o : Option Agent) :
    ownedByOther p o = false ↔ o = none ∨ o = some p := by
  cases o <;> simp [ownedByOther]

/-- The lines of a set that other agents own, by their owners. -/
theorem State.takenByOthers_eq : s.takenByOthers p x =
    ⟨Bank.build fun d => x.drives.read d && (s.driveOwner.read d != none && s.driveOwner.read d != some p),
      Bank.build fun i => x.senses.read i && (s.senseOwner.read i != none && s.senseOwner.read i != some p)⟩ := by
  simp only [State.takenByOthers, ownedByOther_eq]
  rfl

/-- Check 1 of R41 passes where every line of the set is unowned or the agent's. -/
theorem State.takenByOthers_isEmpty_iff : (s.takenByOthers p x).isEmpty = true ↔
    (∀ d, x.drives.read d = true → s.driveOwner.read d = none ∨ s.driveOwner.read d = some p)
    ∧ ∀ i, x.senses.read i = true → s.senseOwner.read i = none ∨ s.senseOwner.read i = some p := by
  simp only [LineSets.isEmpty_iff, State.takenByOthers, LineSets.filter, setFilter_read, Bool.and_eq_false_imp,
    ownedByOther_eq_false_iff]

theorem State.takeReserve_taken (acts : s.expand (lineSetsOf bs) = x)
    (taken : (s.takenByOthers p x).isEmpty = false) :
    s.takeReserve p bs = (s, ⟨.lineTaken, .lines (s.takenByOthers p x)⟩) := by
  rw [State.takeReserve, acts]
  exact if_pos (by rw [taken]; rfl)

theorem State.takeReserve_locked (acts : s.expand (lineSetsOf bs) = x)
    (free : (s.takenByOthers p x).isEmpty = true)
    (lock : ∃ d, x.drives.read d = true ∧ s.lockSet.read d = true) :
    s.takeReserve p bs =
      (s, ⟨.ballotLock, .locked (Bank.build fun d => x.drives.read d && s.lockSet.read d) s.ballot.number⟩) := by
  have locked : setIsEmpty (setFilter x.drives fun d => s.lockSet.read d) = false := by
    obtain ⟨d, mem, locks⟩ := lock
    rw [Bool.eq_false_iff, Ne, setIsEmpty_iff]
    intro none
    simpa [mem, locks] using none d
  rw [State.takeReserve, acts]
  exact (if_neg (by rw [free]; decide)).trans (if_pos (by rw [locked]; rfl))

/-- The state after an accepted RESERVE: only the lines newly taken have another owner and another setup (R42). -/
theorem State.assignLines_unowned (free : (s.takenByOthers p x).isEmpty = true) : s.assignLines p (s.unowned x) =
    { s with
      driveOwner := Bank.build fun d => if x.drives.read d then some p else s.driveOwner.read d
      senseOwner := Bank.build fun i => if x.senses.read i then some p else s.senseOwner.read i
      sense := Bank.build fun i =>
        if x.senses.read i && s.senseOwner.read i == none then
          ⟨.rising, 1, 0, 0, ⟨(s.senseLine i).sample, 0⟩, false, (s.senseLine i).sample⟩
        else s.senseLine i
      arisen := s.arisen.filter fun e =>
        !((List.finRange 8).any fun i => (x.senses.read i && s.senseOwner.read i == none) && e.isEdgeOf i) } := by
  obtain ⟨drives, senses⟩ := State.takenByOthers_isEmpty_iff.1 free
  have owner {mem : Bool} {o : Option Agent} (own : mem = true → o = none ∨ o = some p) :
      (if mem && o == none then some p else o) = if mem then some p else o := by
    cases mem
    · rfl
    · rcases own rfl with rfl | rfl
      · rfl
      · exact ite_self _
  simp only [State.assignLines, State.unowned, LineSets.filter, setFilter_read, owner (drives _), owner (senses _)]
  rfl

/-- What the agent owns after an accepted RESERVE. -/
theorem State.owned_assignLines_unowned (free : (s.takenByOthers p x).isEmpty = true) :
    (s.assignLines p (s.unowned x)).owned p =
      ⟨Bank.build fun d => x.drives.read d || s.driveOwner.read d == some p,
        Bank.build fun i => x.senses.read i || s.senseOwner.read i == some p⟩ := by
  have owner (mem : Bool) (o : Option Agent) :
      ((if mem then some p else o) == some p) = (mem || o == some p) := by
    cases mem
    · rfl
    · exact beq_self_eq_true _
  simp only [State.assignLines_unowned free, State.owned, State.ownsDrive, State.ownsSense, Bank.read_build, owner]

theorem State.takeReserve_takes (acts : s.expand (lineSetsOf bs) = x) (free : (s.takenByOthers p x).isEmpty = true)
    (unlocked : ∀ d, x.drives.read d = true → s.lockSet.read d = false) :
    s.takeReserve p bs = (s.assignLines p (s.unowned x),
      ⟨.ok, .ownership (s.unowned x) ((s.assignLines p (s.unowned x)).owned p)⟩) := by
  have none : setIsEmpty (setFilter x.drives fun d => s.lockSet.read d) = true := by
    simpa [setIsEmpty_iff] using unlocked
  rw [State.takeReserve, acts]
  exact (if_neg (by rw [free]; decide)).trans (if_neg (by rw [none]; decide))

/-- Settles O24: the ownership table's RESERVE on the expanded set, whose owners, locks and lines the renewed lease
leaves as they are. -/
theorem reserveTakesAllOrNothing : Obligations.ReserveTakesAllOrNothing := by
  unfold Obligations.ReserveTakesAllOrNothing
  intro p tag b0 b1 b2 x s accepts openState drives senses
  have acts : ((s.settle p).renewLease p).expand (lineSetsOf [b0, b1, b2]) = x := State.expand_lineSetsOf drives senses
  have admitted : (Command.reserve.row [b0, b1, b2]).refusal (s.session p).state = none := by
    rw [openState]
    rfl
  have answers {t : State} {r : Reply} (takes : ((s.settle p).renewLease p).takeReserve p [b0, b1, b2] = (t, r)) :
      exec (.reserve p tag [b0, b1, b2]) s = .next (t.respond p ⟨tag, 0x05, r.status, r.data⟩) :=
    exec_answers (c := .reserve) rfl accepts (List.mem_singleton.2 rfl) admitted takes
  refine ⟨fun foreign => ?_, fun ownDrives ownSenses => ?_⟩
  · have taken : (s.takenByOthers p x).isEmpty = false := by
      rw [Bool.eq_false_iff, Ne, State.takenByOthers_isEmpty_iff]
      rintro ⟨ownDrives, ownSenses⟩
      rcases foreign with ⟨d, a, mem, owner, other⟩ | ⟨i, a, mem, owner, other⟩
      · simpa [owner, other] using ownDrives d mem
      · simpa [owner, other] using ownSenses i mem
    rw [← State.takenByOthers_eq]
    exact answers (State.takeReserve_taken acts taken)
  · have free : (((s.settle p).renewLease p).takenByOthers p x).isEmpty = true :=
      State.takenByOthers_isEmpty_iff.2 ⟨ownDrives, ownSenses⟩
    refine ⟨fun lock => answers (State.takeReserve_locked acts free lock), fun unlocked => ?_⟩
    rw [answers (State.takeReserve_takes acts free unlocked), State.owned_assignLines_unowned free,
      State.assignLines_unowned free]
    rfl

/-! ## RELEASE (R45 to R47) -/

/-- RELEASE by the two sets it is checked on: the lines of its set that are not the agent's, and those that an entry of
the agent names. -/
theorem State.takeRelease_eq {foreign used : LineSets} (acts : s.expand (lineSetsOf bs) = x)
    (notOwn : x.filter (fun d => !s.ownsDrive p d) (fun i => !s.ownsSense p i) = foreign)
    (named : x.filter (fun d => (s.session p).names (.drive d)) (fun i => (s.session p).names (.sense i)) = used) :
    s.takeRelease p bs =
      if !foreign.isEmpty then (s, ⟨.lineNotOwned, .lines foreign⟩)
      else if !used.isEmpty then (s, ⟨.lineInUse, .lines used⟩)
      else (s.releaseLines x, ⟨.ok, .ownership x ((s.releaseLines x).owned p)⟩) := by
  rw [State.takeRelease, acts, notOwn, named]

/-- What the agent owns after an accepted RELEASE. -/
theorem State.owned_releaseLines : (s.releaseLines x).owned p =
    ⟨Bank.build fun d => !x.drives.read d && s.driveOwner.read d == some p,
      Bank.build fun i => !x.senses.read i && s.senseOwner.read i == some p⟩ := by
  have owner (mem : Bool) (o : Option Agent) :
      ((if mem then none else o) == some p) = (!mem && o == some p) := by
    cases mem <;> rfl
  simp only [State.releaseLines, State.owned, State.ownsDrive, State.ownsSense, Bank.read_build, owner]

theorem Session.names_renew (q : Session) (t : Target) : q.renew.names t = q.names t := by
  simp only [Session.names, Session.renew_staging, Session.renew_active]

/-- Settles O25: the ownership table's RELEASE on the expanded set; the renewed lease leaves the owners and the entries
that name lines as they are. -/
theorem releaseGivesLinesBack : Obligations.ReleaseGivesLinesBack := by
  unfold Obligations.ReleaseGivesLinesBack
  rintro p tag b0 b1 b2 x foreign used s accepts openState drives senses notOwn namedLines
  have acts : ((s.settle p).renewLease p).expand (lineSetsOf [b0, b1, b2]) = x := State.expand_lineSetsOf drives senses
  have admitted : (Command.release.row [b0, b1, b2]).refusal (s.session p).state = none := by
    rw [openState]
    rfl
  have answers {t : State} {r : Reply} (takes : ((s.settle p).renewLease p).takeRelease p [b0, b1, b2] = (t, r)) :
      exec (.release p tag [b0, b1, b2]) s = .next (t.respond p ⟨tag, 0x06, r.status, r.data⟩) :=
    exec_answers (c := .release) rfl accepts (List.mem_singleton.2 rfl) admitted takes
  have named : x.filter (fun d => (((s.settle p).renewLease p).session p).names (.drive d))
      (fun i => (((s.settle p).renewLease p).session p).names (.sense i)) = used := by
    simp only [State.settled_session_self, Session.names_renew]
    exact namedLines.symm
  have takes := State.takeRelease_eq acts notOwn.symm named
  refine ⟨fun others => ?_, fun own inUse => ?_, fun own unused => ?_⟩
  · rw [others] at takes
    exact answers takes
  · rw [own, inUse] at takes
    exact answers takes
  · rw [own, unused] at takes
    refine (answers takes).trans ?_
    rw [State.owned_releaseLines]
    rfl

end

end Sys2Proof.Machine
end

section
/-! SUPPORT. The drive engine on one line (chapter 6): due actions on a line that is ASSERTED and on one that is
DEASSERTED (R102 to R105), the interlock (R99), and the pin (R49), for O36. -/

namespace Sys2Proof.Machine

/-! ## Pairs and the interlock (R51, R99) -/

theorem partner_val (d : Drive) : (partner d).val = if d.val % 2 = 0 then d.val + 1 else d.val - 1 := by
  unfold partner
  split <;> rfl

theorem blocked_iff (st : Settings) (lines : Bank DriveLine 16) (d : Drive) : blocked st lines d = true ↔
    (st.pairSetup.read (pairOf d)).interlock = true
      ∧ ((lines.read (partner d)).asserted = true ∨ 0 < (lines.read (partner d)).guardRemaining) := by
  simp only [blocked, interlocked, Bool.and_eq_true, Bool.or_eq_true, decide_eq_true_eq]

/-! ## The pin (R49) -/

section

variable {s : State} {d : Drive}

theorem State.pin_of_deasserted (low : (s.line d).asserted = false) : s.pin d = s.settings.idleLevel.read d :=
  if_neg (by rw [low]; decide)

theorem State.pin_of_asserted (high : (s.line d).asserted = true) :
    s.pin d = oppositeLevel (s.settings.idleLevel.read d) := if_pos high

theorem Coherent.pin_of_unowned (h : Coherent s) (unowned : s.driveOwner.read d = none) :
    s.pin d = s.settings.idleLevel.read d :=
  State.pin_of_deasserted (by rw [h.unownedIdle d unowned]; rfl)

end

/-! ## Due actions on an unforced line (R102 to R105) -/

section

variable {l : DriveLine} {st : Settings} {d : Drive} {blocks : Bool} {cycle : Cycle}

/-- A deferred assert is made in the present cycle, or keeps its own with the new kind (R102, R105). -/
theorem DriveLine.defer_of_none (fresh : l.deferred = none) (k : DeferredKind) :
    l.defer cycle k = { l with deferred := some ⟨k, cycle⟩ } := by
  rw [DriveLine.defer, fresh]

theorem DriveLine.defer_of_some {x : Deferred} (waits : l.deferred = some x) (k : DeferredKind) :
    l.defer cycle k = { l with deferred := some ⟨k, x.cycle⟩ } := by
  rw [DriveLine.defer, waits]

section

/-! On an unforced line each drive action is the operation of its rule. -/

variable (free : l.forcing = .free)
include free

theorem DriveLine.serve_assert : l.serve st d blocks cycle .assert = l.dueAssert blocks cycle := if_pos free

theorem DriveLine.serve_deassert : l.serve st d blocks cycle .deassert = l.dueDeassert st d := if_pos free

theorem DriveLine.serve_toggle : l.serve st d blocks cycle .toggle = l.dueToggle st d blocks cycle := if_pos free

theorem DriveLine.serve_pulse (w : Nat) : l.serve st d blocks cycle (.pulse w) = l.duePulse blocks cycle w :=
  if_pos free

end

section

variable (high : l.asserted = true)
include high

/-- The guarded deassert of a line that is ASSERTED (R100). -/
theorem DriveLine.guardedDeassert_of_asserted : l.guardedDeassert st d =
    { l with
      asserted := false
      pulseEnd := none
      guardRemaining := if interlocked st d then guardOf st d else l.guardRemaining } := if_pos high

theorem DriveLine.dueAssert_of_asserted : l.dueAssert blocks cycle = { l with pulseEnd := none } := if_pos high

theorem DriveLine.duePulse_of_asserted (w : Nat) : l.duePulse blocks cycle w = { l with pulseEnd := some w } :=
  if_pos high

theorem DriveLine.dueDeassert_of_asserted : l.dueDeassert st d = l.guardedDeassert st d := if_pos high

theorem DriveLine.dueToggle_of_asserted : l.dueToggle st d blocks cycle = l.guardedDeassert st d :=
  (if_pos high).trans (l.dueDeassert_of_asserted high)

end

section

variable (low : l.asserted = false)
include low

theorem DriveLine.dueAssert_of_deasserted : l.dueAssert blocks cycle =
    if blocks then l.defer cycle .assert else { l with asserted := true, guardRemaining := 0, deferred := none } :=
  if_neg (by rw [low]; decide)

theorem DriveLine.duePulse_of_deasserted (w : Nat) : l.duePulse blocks cycle w =
    if blocks then l.defer cycle (.pulse w)
    else { l with asserted := true, guardRemaining := 0, pulseEnd := some w, deferred := none } :=
  if_neg (by rw [low]; decide)

theorem DriveLine.dueDeassert_of_deasserted : l.dueDeassert st d = { l with deferred := none } :=
  if_neg (by rw [low]; decide)

theorem DriveLine.dueToggle_of_deasserted : l.dueToggle st d blocks cycle =
    if l.deferred.isSome then { l with deferred := none } else l.dueAssert blocks cycle :=
  if_neg (by rw [low]; decide)

end

end

/-- Settles O36: the tables of R102 to R105, row by row: each action by its operation, on a line ASSERTED or
DEASSERTED. -/
theorem dueActionsAndPinsFollowTheTables : Obligations.DueActionsAndPinsFollowTheTables := by
  unfold Obligations.DueActionsAndPinsFollowTheTables
  refine ⟨fun st lines d => ⟨blocked_iff st lines d, Iff.rfl, rfl, rfl, partner_val d⟩, fun s d => ?pins,
    fun st d blocks cycle w l => ⟨fun forced act => l.serve_forced forced, fun free high => ?asserted,
      fun free low => ?deasserted⟩⟩
  case pins =>
    refine ⟨fun low idle => ?_, fun low idle => ?_, fun high idle => ?_, fun high idle => ?_, Coherent.pin_of_unowned⟩
    · rw [State.pin_of_deasserted low, idle]
    · rw [State.pin_of_deasserted low, idle]
    · rw [State.pin_of_asserted high, idle]; rfl
    · rw [State.pin_of_asserted high, idle]; rfl
  case asserted =>
    refine ⟨(l.serve_assert free).trans (l.dueAssert_of_asserted high),
      (l.serve_pulse free w).trans (l.duePulse_of_asserted high w), ?_⟩
    rintro act (rfl | rfl)
    · rw [l.serve_deassert free, l.dueDeassert_of_asserted high, l.guardedDeassert_of_asserted high]
    · rw [l.serve_toggle free, l.dueToggle_of_asserted high, l.guardedDeassert_of_asserted high]
  case deasserted =>
    have assert (b : Bool) := (l.serve_assert (st := st) (d := d) (cycle := cycle) (blocks := b) free).trans
      (l.dueAssert_of_deasserted low)
    have pulse (b : Bool) := (l.serve_pulse (st := st) (d := d) (cycle := cycle) (blocks := b) free w).trans
      (l.duePulse_of_deasserted low w)
    have toggle := (l.serve_toggle free).trans
      (l.dueToggle_of_deasserted (st := st) (d := d) (blocks := blocks) (cycle := cycle) low)
    refine ⟨(l.serve_deassert free).trans (l.dueDeassert_of_deasserted low), fun waits => ?_, fun fresh => ?_,
      assert false, pulse false, fun fresh => ?_, fun x waits => ?_⟩
    · rw [toggle, if_pos (Option.isSome_iff_ne_none.2 waits)]
    · rw [toggle, fresh, l.serve_assert free]
      rfl
    · exact ⟨(assert true).trans (l.defer_of_none fresh .assert), (pulse true).trans (l.defer_of_none fresh (.pulse w))⟩
    · exact ⟨(assert true).trans (l.defer_of_some waits .assert), (pulse true).trans (l.defer_of_some waits (.pulse w))⟩

end Sys2Proof.Machine
end

section
/-! SUPPORT. What the checks of PROPOSE look at (R52, R136, R139), rule by rule, for O46. -/

namespace Sys2Proof.Machine

/-! ## INVALID_SETTING (R136; log entry 19) -/

/-- A search through a list of checks finds the first if it fails, or else the first of the others. -/
theorem find?_check {α : Type} (fails : Bool) (x : α) (rest : List (Bool × α)) :
    (((fails, x) :: rest).find? fun y => y.1).map (fun y => y.2) =
      if fails = true then some x else (rest.find? fun y => y.1).map fun y => y.2 := by
  cases fails <;> rfl

theorem recordEmpty_iff (r : List Byte) : recordEmpty r = true ↔
    byteAt r 0 = 0 ∧ byteAt r 1 % 16 = 0 ∧ byteAt r 2 = 0 ∧ halfAt r 3 = 0 := by
  simp only [recordEmpty, Bool.and_eq_true, beq_iff_eq, and_assoc]

/-- A period field of 1 is the only one out of range, since 0 means 65536. -/
theorem periodAt_lt_two_iff (r : List Byte) : periodAt r < 2 ↔ halfAt r 5 = 1 := by
  unfold periodAt
  split <;> omega

/-- The fields in the order of R135, the run field last (log entry 19). -/
theorem rangeFault_eq (r : List Byte) : rangeFault r =
    if (byteAt r 0).testBit 7 = true ∧ halfAt r 5 = 1 then some .period
    else if (byteAt r 0).testBit 6 = true ∧ (halfAt r 7 = 0 ∨ 4096 < halfAt r 7) then some .divider
    else if (byteAt r 0).testBit 5 = true ∧ 3 < byteAt r 9 then some .mode
    else if (byteAt r 0).testBit 2 = true ∧ 8 < byteAt r 13 then some .triggerSource
    else if (byteAt r 0).testBit 1 = true ∧ 8 < byteAt r 14 then some .gateSource
    else if (byteAt r 0).testBit 0 = true ∧ 15 < byteAt r 15 then some .timingFilter
    else if ∃ a : Agent, (byteAt r 1).testBit a.val = true ∧ 128 < byteAt r (16 + a.val) then some .quota
    else if (byteAt r 0).testBit 4 = true ∧ byteAt r 10 ≠ 1 ∧ byteAt r 10 ≠ 2 then some .run
    else none := by
  simp only [rangeFault, rangeChecks, find?_check, fieldPresent, quotaPresent, Bool.and_eq_true, Bool.or_eq_true,
    decide_eq_true_eq, bne_iff_ne, List.any_eq_true, List.mem_finRange, true_and, periodAt_lt_two_iff, Nat.lt_one_iff,
    and_assoc, List.find?_nil, Option.map_none]

/-- A mode without the source it calls for. -/
theorem Settings.sourced_eq_false_iff (st : Settings) : st.sourced = false ↔
    ((st.mode = .triggered ∨ st.mode = .restart) ∧ st.triggerSource = none)
      ∨ (st.mode = .gated ∧ st.gateSource = none) := by
  unfold Settings.sourced
  cases st.mode <;> simp

theorem Settings.quotaSum_eq (st : Settings) :
    st.quotaSum = st.quota.read 0 + st.quota.read 1 + st.quota.read 2 + st.quota.read 3 := by
  simp only [Settings.quotaSum, ← List.ofFn_eq_map, List.sum_ofFn, Fin.sum_univ_four]

/-- The rules of R136 in their order, the range of each field before those on the settings that would result. -/
theorem State.settingFault_eq (s : State) (r : List Byte) : s.settingFault r =
    if recordEmpty r = true then some .empty
    else ((rangeFault r).map .range).or
      (if (s.settings.updated (proposalOf r)).sourced = false then some .modeSource
      else if 128 < (s.settings.updated (proposalOf r)).quotaSum then some .quotaSum
      else none) := by
  unfold State.settingFault
  cases rangeFault r <;>
    simp only [Option.map_none, Option.none_or, Option.map_some, Option.some_or, Bool.not_eq_true']

/-! ## OFFSET_CONFLICT (R139) -/

/-- An agent none of whose entries lies at or beyond a period. -/
def State.EntriesBelow (s : State) (k : Nat) (a : Agent) : Prop :=
  ∀ e, e ∈ (s.session a).staging ∨ e ∈ (s.session a).active → e.offset < k

/-- The first entry of a list at or beyond a period. -/
theorem find?_offset_eq_some {k : Nat} {list : List Entry} {e : Entry}
    (found : (list.find? fun e => decide (k ≤ e.offset)) = some e) :
    k ≤ e.offset ∧ ∃ before after, list = before ++ e :: after ∧ ∀ e ∈ before, e.offset < k := by
  simpa [List.find?_eq_some_iff_append] using found

theorem find?_offset_eq_none_iff {k : Nat} {list : List Entry} :
    (list.find? fun e => decide (k ≤ e.offset)) = none ↔ ∀ e ∈ list, e.offset < k := by
  simp [List.find?_eq_none]

theorem State.offsetConflictOf_eq_none_iff (s : State) (k : Nat) (a : Agent) :
    s.offsetConflictOf k a = none ↔ s.EntriesBelow k a := by
  unfold State.offsetConflictOf State.EntriesBelow
  simp only [or_imp, forall_and, ← find?_offset_eq_none_iff]
  split
  · next e staged => simp [staged]
  · next staged => simp [staged]

/-- What is found of one agent is the first such entry of its staging list, or of its active part where the staging list
has none. -/
theorem State.offsetConflictOf_eq_some {s : State} {k : Nat} {a : Agent} {c : OffsetConflict}
    (found : s.offsetConflictOf k a = some c) : c.agent = a ∧ k ≤ c.entry.offset
      ∧ (c.active = false → ∃ before after, (s.session a).staging = before ++ c.entry :: after
        ∧ ∀ e ∈ before, e.offset < k)
      ∧ (c.active = true → (∀ e ∈ (s.session a).staging, e.offset < k)
        ∧ ∃ before after, (s.session a).active = before ++ c.entry :: after ∧ ∀ e ∈ before, e.offset < k) := by
  unfold State.offsetConflictOf at found
  split at found
  · next e staged =>
    cases found
    obtain ⟨beyond, first⟩ := find?_offset_eq_some staged
    exact ⟨rfl, beyond, fun _ => first, nofun⟩
  · next staged =>
    obtain ⟨e, active, rfl⟩ := Option.map_eq_some_iff.1 found
    obtain ⟨beyond, first⟩ := find?_offset_eq_some active
    exact ⟨rfl, beyond, nofun, fun _ => ⟨find?_offset_eq_none_iff.1 staged, first⟩⟩

section

variable {s : State} {p : Proposal}

theorem State.offsetConflict_of_none (absent : p.period = none) : s.offsetConflict p = none := by
  rw [State.offsetConflict, absent]

/-- With a period proposed, the agents are asked in ascending order. -/
theorem State.offsetConflict_of_some {k : Nat} (present : p.period = some k) :
    s.offsetConflict p = Fin.findSome? (s.offsetConflictOf k) := by
  rw [State.offsetConflict, present, Fin.findSome?_eq_findSome?_finRange]

theorem State.offsetConflict_eq_none_iff {k : Nat} (present : p.period = some k) :
    s.offsetConflict p = none ↔ ∀ a, s.EntriesBelow k a := by
  simp only [State.offsetConflict_of_some present, Fin.findSome?_eq_none_iff, State.offsetConflictOf_eq_none_iff]

theorem State.offsetConflict_eq_some_iff {k : Nat} {c : OffsetConflict} (present : p.period = some k) :
    s.offsetConflict p = some c ↔ ∃ a, s.offsetConflictOf k a = some c ∧ ∀ b < a, s.EntriesBelow k b := by
  simp only [State.offsetConflict_of_some present, Fin.findSome?_eq_some_iff, State.offsetConflictOf_eq_none_iff]

/-! ## QUOTA_CONFLICT (R139) -/

theorem State.exceedsQuota_iff (s : State) (p : Proposal) (a : Agent) : s.exceedsQuota p a = true ↔
    ∃ k, p.quota.read a = some k ∧ (k < (s.session a).staging.length ∨ k < (s.session a).active.length) := by
  unfold State.exceedsQuota
  cases p.quota.read a <;> simp

/-- The agents are asked in ascending order. -/
theorem State.quotaConflict_eq : s.quotaConflict p = Fin.find? (s.exceedsQuota p) := by
  rw [State.quotaConflict, Fin.find?_eq_find?_finRange]

/-! ## The lock set (R52) -/

theorem Proposal.lockSet_iff (p : Proposal) (d : Drive) :
    p.lockSet.read d = true ↔ p.pairSetup.read (pairOf d) ≠ none ∨ p.idleLevel.read d ≠ none := by
  simp only [Proposal.lockSet, Bank.read_build, Bool.or_eq_true, Option.isSome_iff_ne_none]

/-- While a proposal stands, its lock set is the ballot's. -/
theorem State.lockSet_of_proposal (stands : s.ballot.slot.proposal? = some p) : s.lockSet = p.lockSet := by
  rw [State.lockSet, stands]

theorem State.lockSet_of_empty (slot : s.ballot.slot = .empty) (d : Drive) : s.lockSet.read d = false := by
  rw [State.lockSet, slot]
  exact Bank.read_fill _ _

end

/-- Settles O46: each check by the lemma on what it looks at. -/
theorem proposalChecksFollowTheRules : Obligations.ProposalChecksFollowTheRules := by
  unfold Obligations.ProposalChecksFollowTheRules
  refine ⟨?settings, fun s p => ⟨State.offsetConflict_of_none, fun k present => ⟨?noOffset, ?offset⟩⟩,
    fun s p exceeds isExceeds => ?quota, fun s p d => ⟨p.lockSet_iff d, fun slot => State.lockSet_of_empty slot d,
      fun b slot => ?_, fun b q slot => ?_⟩⟩
  case settings =>
    rintro r s _ mode trigger gate quota rfl isMode isTrigger isGate isQuota
    have sourced : (s.settings.updated (proposalOf r)).sourced = false ↔
        ((mode = .triggered ∨ mode = .restart) ∧ trigger = none) ∨ (mode = .gated ∧ gate = none) := by
      rw [isMode, isTrigger, isGate]
      exact Settings.sourced_eq_false_iff _
    have quotaSum : (s.settings.updated (proposalOf r)).quotaSum = quota 0 + quota 1 + quota 2 + quota 3 := by
      simp only [Settings.quotaSum_eq, Settings.updated, Bank.read_build, isQuota]
    simp only [State.settingFault_eq, recordEmpty_iff, rangeFault_eq, sourced, quotaSum, ite_or,
      apply_ite (Option.map _), fun x => apply_ite (Option.or · x), Option.map_some, Option.map_none, Option.some_or,
      Option.none_or]
  case noOffset => exact State.offsetConflict_eq_none_iff present
  case offset =>
    intro c conflict
    obtain ⟨a, found, before⟩ := (State.offsetConflict_eq_some_iff present).1 conflict
    obtain ⟨rfl, beyond, staged, active⟩ := State.offsetConflictOf_eq_some found
    exact ⟨beyond, before, staged, active⟩
  case quota =>
    have same (a : Agent) : exceeds a ↔ s.exceedsQuota p a = true := (isExceeds a).trans (s.exceedsQuota_iff p a).symm
    simp only [State.quotaConflict_eq, same, Fin.find?_eq_none_iff, Fin.find?_eq_some_iff, Bool.not_eq_true,
      implies_true, and_self]
  · exact State.lockSet_of_proposal (by rw [slot]; rfl)
  · exact State.lockSet_of_proposal (by rw [slot]; rfl)

end Sys2Proof.Machine
end

section
/-! SUPPORT. Entry records read back from their bytes, and the bytes that are refused (R56, R173, section 11.4), for
O9. -/

namespace Sys2Proof.Machine

/-! ## Fields (section 11.2) -/

theorem toNat_byte {n : Nat} (fits : n < 256) : (byte n).toNat = n := by
  simpa [byte] using Nat.mod_eq_of_lt fits

/-- The two bytes of a field, the most significant first, are read as the field. -/
theorem half_value {n : Nat} (fits : n < 65536) : 256 * (byte (n / 256)).toNat + (byte n).toNat = n := by
  simp only [byte, BitVec.toNat_ofNat]
  omega

theorem indexBelow_eq_none_iff {n k : Nat} : indexBelow n k = none ↔ n ≤ k := by
  simp [indexBelow]

theorem indexBelow_eq_some_iff {n k : Nat} {i : Fin n} : indexBelow n k = some i ↔ k = i.val := by
  unfold indexBelow
  split
  · simp [Fin.ext_iff]
  · next beyond => exact iff_of_false nofun fun same => beyond (same ▸ i.isLt)

theorem handleOf_eq_some_iff {k h : Nat} : handleOf k = some h ↔ k < 128 ∧ k = h :=
  Option.ite_none_right_eq_some.trans (and_congr_right' Option.some_inj)

theorem handleOf_eq_none_iff {k : Nat} : handleOf k = none ↔ 128 ≤ k := by
  rw [Option.eq_none_iff_forall_ne_some]
  simp [handleOf_eq_some_iff]

/-! ## The action, with its width and label (R56) -/

/-- An action is read from its own code, width and label, and from nothing else; a PULSE has a width. -/
theorem actionOf_eq_some_iff {code width : Nat} {label : Byte} {act : Action} : actionOf code width label = some act ↔
    act.code.toNat = code ∧ act.width = width ∧ act.label = label ∧ ∀ w, act = .pulse w → w ≠ 0 := by
  constructor
  · intro read
    unfold actionOf at read
    split at read
    · split at read
      · next pulse =>
        cases read
        exact ⟨by simp_all [Action.code], rfl, pulse.2.symm, fun w same => by cases same; exact pulse.1⟩
      · cases read
    split at read
    · cases read
    next width =>
    rw [not_not] at width
    split at read
    · cases read
      exact ⟨by simp_all [Action.code], width.symm, rfl, nofun⟩
    split at read
    · cases read
    next label =>
    rw [not_not] at label
    split at read <;> cases read <;> exact ⟨rfl, width.symm, label.symm, nofun⟩
  · rintro ⟨rfl, rfl, rfl, pulse⟩
    cases act with
    | pulse w =>
      have wide : w ≠ 0 ∧ (0 : Byte) = 0 := ⟨pulse w rfl, rfl⟩
      exact if_pos wide
    | assert | deassert | toggle | arm | disarm | mark label => rfl

theorem actionOf_eq_none_iff {code width : Nat} {label : Byte} : actionOf code width label = none ↔
    (code = 0 ∨ 8 ≤ code) ∨ (code = 4 ∧ width = 0) ∨ (code ≠ 4 ∧ width ≠ 0) ∨ (code ≠ 7 ∧ label ≠ 0) := by
  unfold actionOf
  split
  · next pulse => simp [pulse, imp_iff_not_or]
  next notPulse =>
  split
  · next width => simp [notPulse, width]
  next width =>
  split
  · next mark => simp_all
  next notMark =>
  split
  · next label => exact iff_of_true rfl (.inr (.inr (.inr ⟨notMark, label⟩)))
  next label =>
  rw [not_not] at width label
  split <;> simp_all
  omega

/-! ## The cadence (R56) -/

theorem cadenceOf_eq_some_iff {interval phase : Nat} {c : Option Cadence} : cadenceOf interval phase = some c ↔
    (c = none ∧ interval = 0 ∧ phase = 0)
      ∨ (c = some ⟨interval, phase⟩ ∧ 1 ≤ interval ∧ interval ≤ 16 ∧ phase < interval) := by
  unfold cadenceOf
  split
  · next absent => split <;> simp_all [eq_comm]
  · next present =>
    split
    · next legal => simp [present, legal, Nat.one_le_iff_ne_zero, eq_comm]
    · next illegal => simp [present, illegal]

theorem cadenceOf_eq_none_iff {interval phase : Nat} : cadenceOf interval phase = none ↔
    (interval = 0 ∧ phase ≠ 0) ∨ 17 ≤ interval ∨ (interval ≠ 0 ∧ interval ≤ phase) := by
  unfold cadenceOf
  split
  · next absent => split <;> simp_all
  · next present => split <;> simp <;> omega

/-! ## The fields that STAGE_ENTRY and AMEND_ENTRY both carry (section 11.3) -/

theorem entryFieldsOf_eq_some_iff {bs : List Byte} {f : EntryFields} : entryFieldsOf bs = some f ↔
    actionOf (byteAt bs 1) (halfAt bs 4) (bs.getD 8 0) = some f.action ∧ halfAt bs 2 = f.offset
      ∧ cadenceOf (byteAt bs 6) (byteAt bs 7) = some f.cadence := by
  obtain ⟨action, offset, cadence⟩ := f
  unfold entryFieldsOf
  split
  · next act c readAction readCadence =>
    rw [readAction, readCadence]
    simp
  · next readCadence => simp [readCadence]
  · next readAction =>
    rw [readAction]
    simp

theorem entryFieldsOf_eq_none_iff {bs : List Byte} : entryFieldsOf bs = none ↔
    actionOf (byteAt bs 1) (halfAt bs 4) (bs.getD 8 0) = none ∨ cadenceOf (byteAt bs 6) (byteAt bs 7) = none := by
  unfold entryFieldsOf
  split
  · next act c readAction readCadence =>
    rw [readAction, readCadence]
    simp
  · next readCadence => simp [readCadence]
  · next readAction => exact iff_of_true rfl (.inl readAction)

/-- The fields of an entry but its handle and target lie in the ranges of section 4.1. -/
structure EntryFields.Legal (f : EntryFields) : Prop where
  offset : f.offset < 65536
  width : ∀ w, f.action = .pulse w → 1 ≤ w ∧ w < 65536
  cadence : ∀ c, f.cadence = some c → 1 ≤ c.interval ∧ c.interval ≤ 16 ∧ c.phase < c.interval

theorem Action.width_lt {act : Action} (width : ∀ w, act = .pulse w → 1 ≤ w ∧ w < 65536) : act.width < 65536 := by
  cases act with
  | pulse w => exact (width w rfl).2
  | assert | deassert | toggle | arm | disarm | mark label => exact Nat.zero_lt_succ _

/-- Legal fields are read from their nine bytes, whatever stands before them. -/
theorem EntryFields.Legal.read {f : EntryFields} (h : f.Legal) (first : Byte) :
    entryFieldsOf (first :: f.bytes) = some f := by
  rw [entryFieldsOf_eq_some_iff]
  obtain ⟨action, offset, cadence⟩ := f
  have width := half_value (Action.width_lt h.width)
  have offset := half_value h.offset
  have pulse (w : Nat) (same : action = .pulse w) : w ≠ 0 := Nat.one_le_iff_ne_zero.1 (h.width w same).1
  cases cadence with
  | none => exact ⟨actionOf_eq_some_iff.2 ⟨rfl, width.symm, rfl, pulse⟩, offset, rfl⟩
  | some c =>
    obtain ⟨positive, small, below⟩ := h.cadence c rfl
    refine ⟨actionOf_eq_some_iff.2 ⟨rfl, width.symm, rfl, pulse⟩, offset, ?_⟩
    have interval : (byte c.interval).toNat = c.interval := toNat_byte (by omega)
    have phase : (byte c.phase).toNat = c.phase := toNat_byte (by omega)
    have read : cadenceOf (byte c.interval).toNat (byte c.phase).toNat = some (some c) := by
      rw [interval, phase]
      exact cadenceOf_eq_some_iff.2 (.inr ⟨rfl, positive, small, below⟩)
    exact read

/-- Only legal fields are read. -/
theorem EntryFields.legal_of_read {bs : List Byte} {f : EntryFields} (read : entryFieldsOf bs = some f) : f.Legal := by
  obtain ⟨action, offset, cadence⟩ := entryFieldsOf_eq_some_iff.1 read
  obtain ⟨-, width, -, pulse⟩ := actionOf_eq_some_iff.1 action
  refine ⟨?_, fun w same => ⟨Nat.one_le_iff_ne_zero.2 (pulse w same), ?_⟩, fun c present => ?_⟩
  · exact offset ▸ Nat.lt_succ_of_le (halfAt_le bs 2)
  · rw [same] at width
    exact (show w = _ from width) ▸ Nat.lt_succ_of_le (halfAt_le bs 4)
  · rcases cadenceOf_eq_some_iff.1 cadence with ⟨absent, -⟩ | ⟨same, legal⟩
    · rw [absent] at present
      cases present
    · rw [same] at present
      cases present
      exact legal

/-! ## The target (R173) and the actions that suit it (R56) -/

theorem Target.read_code (t : Target) : targetOf t.code.toNat = some t := by
  cases t with
  | drive d =>
    revert d
    decide
  | sense i =>
    revert i
    decide
  | marker => rfl

theorem Action.suits_drive_iff (act : Action) (d : Drive) :
    act.suits (.drive d) = true ↔ act.code.toNat ≠ 5 ∧ act.code.toNat ≠ 6 ∧ act.code.toNat ≠ 7 := by
  cases act <;> simp [Action.suits, Action.code]

theorem Action.suits_sense_iff (act : Action) (i : Sense) :
    act.suits (.sense i) = true ↔ act.code.toNat = 5 ∨ act.code.toNat = 6 := by
  cases act <;> simp [Action.suits, Action.code]

theorem Action.suits_marker_iff (act : Action) : act.suits .marker = true ↔ act.code.toNat = 7 := by
  cases act <;> simp [Action.suits, Action.code]

/-- The table of R56, row by row. -/
theorem Action.suits_iff (act : Action) (t : Target) : act.suits t = true ↔
    (∃ d, t = .drive d ∧ (act = .assert ∨ act = .deassert ∨ act = .toggle ∨ ∃ w, act = .pulse w))
    ∨ (∃ i, t = .sense i ∧ (act = .arm ∨ act = .disarm)) ∨ (t = .marker ∧ ∃ b, act = .mark b) := by
  cases t <;> cases act <;> simp [Action.suits]

/-! ## What STAGE_ENTRY carries (section 11.3) -/

theorem stageOf_eq_some_iff {bs : List Byte} {t : Target} {f : EntryFields} : stageOf bs = some (t, f) ↔
    targetOf (byteAt bs 0) = some t ∧ entryFieldsOf bs = some f ∧ f.action.suits t = true := by
  unfold stageOf
  split
  · next u g target fields =>
    rw [target, fields, Option.ite_none_right_eq_some]
    simp only [Option.some.injEq, Prod.mk.injEq]
    constructor
    · rintro ⟨suits, rfl, rfl⟩
      exact ⟨rfl, rfl, suits⟩
    · rintro ⟨rfl, rfl, suits⟩
      exact ⟨suits, rfl, rfl⟩
  · next fields => simp [fields]
  · next target => simp [target]

/-- Where the other fields are read, the record is refused for its target, or for an action that does not suit it. -/
theorem stageOf_eq_none_iff {bs : List Byte} {f : EntryFields} (fields : entryFieldsOf bs = some f) :
    stageOf bs = none ↔ ∀ t, targetOf (byteAt bs 0) = some t → f.action.suits t = false := by
  rw [stageOf, fields]
  cases targetOf (byteAt bs 0) <;> simp

/-! The target byte by its kind. -/

theorem targetOf_drive {k : Nat} (kind : k / 64 = 0) : targetOf k = (indexBelow 16 (k % 64)).map .drive := by
  simp only [targetOf, kind]

theorem targetOf_sense {k : Nat} (kind : k / 64 = 1) : targetOf k = (indexBelow 8 (k % 64)).map .sense := by
  simp only [targetOf, kind]

theorem targetOf_marker {k : Nat} (kind : k / 64 = 2) : targetOf k = if k % 64 = 0 then some .marker else none := by
  simp only [targetOf, kind]

theorem targetOf_unassigned {k : Nat} (kind : k / 64 = 3) : targetOf k = none := by
  simp only [targetOf, kind]

/-- Every line of a bank with a number has the property, or the number is none of the bank's. -/
theorem forall_index_iff {n k : Nat} {P : Prop} : (∀ i : Fin n, k = i.val → P) ↔ n ≤ k ∨ P := by
  rcases Nat.lt_or_ge k n with below | beyond
  · constructor
    · exact fun all => .inr (all ⟨k, below⟩ rfl)
    · exact fun either _ _ => either.resolve_left (not_le.2 below)
  · exact iff_of_true (fun i same => absurd i.isLt (same ▸ not_lt.2 beyond)) (.inl beyond)

/-- The target byte and the action for which a record is refused whose other fields are read. -/
theorem stageOf_eq_none_iff_kind {bs : List Byte} {f : EntryFields} (fields : entryFieldsOf bs = some f) :
    stageOf bs = none ↔
      (byteAt bs 0 / 64 = 0 ∧ (16 ≤ byteAt bs 0 % 64 ∨ byteAt bs 1 = 5 ∨ byteAt bs 1 = 6 ∨ byteAt bs 1 = 7))
      ∨ (byteAt bs 0 / 64 = 1 ∧ (8 ≤ byteAt bs 0 % 64 ∨ byteAt bs 1 ≠ 5 ∧ byteAt bs 1 ≠ 6))
      ∨ (byteAt bs 0 / 64 = 2 ∧ (byteAt bs 0 % 64 ≠ 0 ∨ byteAt bs 1 ≠ 7))
      ∨ byteAt bs 0 / 64 = 3 := by
  obtain ⟨action, -⟩ := entryFieldsOf_eq_some_iff.1 fields
  obtain ⟨code, -⟩ := actionOf_eq_some_iff.1 action
  have byteBound := byteAt_le bs 0
  have kinds : byteAt bs 0 / 64 = 0 ∨ byteAt bs 0 / 64 = 1 ∨ byteAt bs 0 / 64 = 2 ∨ byteAt bs 0 / 64 = 3 := by omega
  have drives (d : Drive) : f.action.suits (.drive d) = false ↔ byteAt bs 1 = 5 ∨ byteAt bs 1 = 6 ∨ byteAt bs 1 = 7 := by
    rw [← Bool.not_eq_true, Action.suits_drive_iff, code]
    tauto
  have senses (i : Sense) : f.action.suits (.sense i) = false ↔ byteAt bs 1 ≠ 5 ∧ byteAt bs 1 ≠ 6 := by
    rw [← Bool.not_eq_true, Action.suits_sense_iff, code, not_or]
  have marker : f.action.suits .marker = false ↔ byteAt bs 1 ≠ 7 := by
    rw [← Bool.not_eq_true, Action.suits_marker_iff, code]
  rw [stageOf_eq_none_iff fields]
  rcases kinds with kind | kind | kind | kind
  · simp only [targetOf_drive kind, kind, Option.map_eq_some_iff, forall_exists_index, and_imp,
      forall_apply_eq_imp_iff₂, indexBelow_eq_some_iff, drives, forall_index_iff]
    simp
  · simp only [targetOf_sense kind, kind, Option.map_eq_some_iff, forall_exists_index, and_imp,
      forall_apply_eq_imp_iff₂, indexBelow_eq_some_iff, senses, forall_index_iff]
    simp
  · simp only [targetOf_marker kind, kind, Option.ite_none_right_eq_some, Option.some.injEq, and_imp, forall_eq',
      forall_comm (α := Target), marker]
    simp [imp_iff_not_or]
  · simp [targetOf_unassigned kind, kind]

/-- Settles O9: a legal entry by the bytes it is laid out in, and every other record by the byte that is out of range or
does not suit the target. -/
theorem entryRecordsAreReadOrRefused : Obligations.EntryRecordsAreReadOrRefused := by
  unfold Obligations.EntryRecordsAreReadOrRefused
  refine ⟨fun e handle suits offset width cadence => ?legal, fun k => handleOf_eq_none_iff, Action.suits_iff,
    fun first act o1 o0 w1 w0 interval phase label => ?fields,
    fun target act o1 o0 w1 w0 interval phase label => ?record⟩
  case legal =>
    have fields : e.fields.Legal := ⟨offset, width, cadence⟩
    refine ⟨?_, ?_, stageOf_eq_some_iff.2 ⟨e.target.read_code, fields.read _, suits⟩, fields.read _⟩
    · rw [Entry.bytes, EntryFields.bytes]
      cases e.fields.cadence <;> rfl
    · exact handleOf_eq_some_iff.2 ⟨(toNat_byte (by omega)).trans_lt handle, toNat_byte (by omega)⟩
  case fields =>
    rw [entryFieldsOf_eq_none_iff, actionOf_eq_none_iff, cadenceOf_eq_none_iff]
    simp only [byteAt, halfAt, List.getD_cons_succ, List.getD_cons_zero]
    bv_omega
  case record =>
    cases fields : entryFieldsOf [target, act, o1, o0, w1, w0, interval, phase, label] with
    | none =>
      refine iff_of_true ?_ (by simp)
      rw [stageOf, fields]
      split <;> trivial
    | some f =>
      have code : ¬ (act.toNat = 0 ∨ 8 ≤ act.toNat) := fun outside => by
        have refused : entryFieldsOf [target, act, o1, o0, w1, w0, interval, phase, label] = none :=
          entryFieldsOf_eq_none_iff.2 (.inl (actionOf_eq_none_iff.2 (.inl outside)))
        rw [fields] at refused
        cases refused
      rw [stageOf_eq_none_iff_kind fields]
      simp only [byteAt, List.getD_cons_succ, List.getD_cons_zero, reduceCtorEq, or_false]
      bv_omega

end Sys2Proof.Machine
end

section
/-! SUPPORT. The timetable store's commands on a staging list (section 4.4) and the reads (sections 4.5 and 8.6): what a
standing ballot allows (O27), what each command does with the list, and the statements on their frames (O26, O28 to
O31). -/

namespace Sys2Proof.Machine

/-! ## Bounds (R57, R63) -/

section

variable {s : State} {offset : Nat} {a : Agent}

theorem State.refusingPeriod_of_beyond (beyond : s.settings.period ≤ offset) :
    s.refusingPeriod offset = some ⟨s.settings.period, none⟩ := if_pos beyond

theorem State.refusingPeriod_of_empty (below : offset < s.settings.period) (empty : s.ballot.slot.proposal? = none) :
    s.refusingPeriod offset = none := by
  rw [State.refusingPeriod, if_neg (not_le.2 below), empty]

theorem State.bound_of_empty (empty : s.ballot.slot.proposal? = none) :
    s.bound a = ⟨s.settings.quota.read a, none⟩ := by
  rw [State.bound, empty]

variable {p : Proposal} (stands : s.ballot.slot.proposal? = some p)
include stands

theorem State.refusingPeriod_of_unproposed (below : offset < s.settings.period) (absent : p.period = none) :
    s.refusingPeriod offset = none := by
  simp [State.refusingPeriod, stands, absent, below]

theorem State.refusingPeriod_of_proposed {k : Nat} (below : offset < s.settings.period) (present : p.period = some k) :
    s.refusingPeriod offset = if k ≤ offset then some ⟨k, some s.ballot.number⟩ else none := by
  rw [State.refusingPeriod, if_neg (not_le.2 below), stands]
  simp only [present]

theorem State.bound_of_unproposed (absent : p.quota.read a = none) : s.bound a = ⟨s.settings.quota.read a, none⟩ := by
  simp [State.bound, stands, absent]

theorem State.bound_of_proposed {k : Nat} (present : p.quota.read a = some k) :
    s.bound a = if k < s.settings.quota.read a then ⟨k, some s.ballot.number⟩ else ⟨s.settings.quota.read a, none⟩ := by
  simp [State.bound, stands, present]

end

/-- Settles O27: the period in force refuses first, and a proposed bound holds where it is the lower one. -/
theorem standingBallotNarrowsOffsetsAndBounds : Obligations.StandingBallotNarrowsOffsetsAndBounds := by
  unfold Obligations.StandingBallotNarrowsOffsetsAndBounds
  refine fun a offset s => ⟨State.refusingPeriod_of_beyond, State.refusingPeriod_of_empty, fun q below stands => ?_,
    State.bound_of_empty, fun q stands => ?_⟩
  · cases proposed : q.period with
    | none => exact State.refusingPeriod_of_unproposed stands below proposed
    | some k => exact State.refusingPeriod_of_proposed stands below proposed
  · cases proposed : q.quota.read a with
    | none => exact State.bound_of_unproposed stands proposed
    | some k => exact State.bound_of_proposed stands proposed

/-! ## Lists (R60 to R62) -/

/-- While a list holds fewer than 128 entries, the handle for the next one is the lowest that it does not hold (R61). -/
theorem freeHandle_lowest {list : List Entry} (room : list.length < 128) : freeHandle list < 128
    ∧ (∀ e ∈ list, e.handle ≠ freeHandle list) ∧ ∀ k, k < freeHandle list → ∃ e ∈ list, e.handle = k := by
  have taken (h : Nat) : (!list.any fun e => e.handle == h) = false ↔ ∃ e ∈ list, e.handle = h := by simp
  have exists_free : ∃ h ∈ List.range 128, h ∉ list.map fun e => e.handle := by
    by_contra all
    push Not at all
    have fewer := (List.subperm_of_subset List.nodup_range all).length_le
    simp only [List.length_range, List.length_map] at fewer
    omega
  obtain ⟨h, inside, free⟩ := exists_free
  cases found : (List.range 128).find? fun h => !list.any fun e => e.handle == h with
  | none =>
    have held := List.find?_eq_none.1 found h inside
    rw [Bool.not_eq_true, taken] at held
    exact absurd (List.mem_map.2 held) free
  | some k =>
    have lowest : freeHandle list = k := congrArg (Option.getD · 0) found
    obtain ⟨unheld, bound, before⟩ := List.find?_range_eq_some.1 found
    rw [lowest]
    refine ⟨List.mem_range.1 bound, fun e mem same => ?_, fun j lower => (taken j).1 ?_⟩
    · rw [(taken k).2 ⟨e, mem, same⟩] at unheld
      cases unheld
    · simpa using before j lower

theorem insertEntry_perm (e : Entry) (list : List Entry) : (insertEntry e list).Perm (e :: list) := by
  induction list with
  | nil => exact .refl _
  | cons x rest ih =>
    unfold insertEntry
    split
    · exact .refl _
    · exact (ih.cons x).trans (.swap e x rest)

theorem entryAt_eq_none_iff {list : List Entry} {t : Target} {offset : Nat} {except : Option Nat} :
    entryAt list t offset except = none ↔
      ∀ e ∈ list, e.target = t → e.offset = offset → some e.handle = except := by
  simp [entryAt, List.find?_eq_none]

/-! ## A command of an OPEN session (R22) -/

section

variable {i : Instr} {p : Agent} {tag : Byte} {bs : List Byte} {c : Command} {s : State}

/-- In an OPEN session, a command with a payload of a permitted length is taken by its owning block and answered. -/
theorem exec_answers_open (frame : i.frame? = some ⟨p, c.code, tag, bs⟩) (accepts : s.Accepts p)
    (openState : (s.session p).state = .openState) (permitted : bs.length ∈ c.lengths) (other : c ≠ .openSession)
    {t : State} {r : Reply} (takes : ((s.settle p).renewLease p).take p bs c = (t, r)) :
    exec i s = .next (t.respond p ⟨tag, c.code, r.status, r.data⟩) := by
  have admitted : (c.row bs).refusal (s.session p).state = none := by
    rw [← frameRefusal_of_length c permitted]
    exact frameRefusal_open openState (by simpa using permitted) other
  exact exec_answers frame accepts permitted admitted takes

/-- The renewed lease concerns no list. -/
theorem State.settled_commit : (((s.settle p).renewLease p).session p).commit = (s.session p).commit := by
  rw [State.settled_session_self, Session.renew_commit]

theorem State.settled_staging : (((s.settle p).renewLease p).session p).staging = (s.session p).staging := by
  rw [State.settled_session_self, Session.renew_staging]

theorem State.settled_active (b : Agent) :
    (((s.settle p).renewLease p).session b).active = (s.session b).active := by
  rw [State.settled_session]
  split
  · next same => rw [Session.renew_active, same]
  · rfl

theorem State.settled_applied (b : Agent) :
    (((s.settle p).renewLease p).session b).applied = (s.session b).applied := by
  rw [State.settled_session]
  split
  · next same => rw [Session.renew_applied, same]
  · rfl

end

/-! ## STAGE_ENTRY (R65, R66) -/

section

variable {s : State} {a : Agent} {bs : List Byte}

section

variable (idle : (s.session a).commit = .none)
include idle

theorem State.takeStage_unread (unread : stageOf bs = none) : s.takeStage a bs = (s, refuse .badArgument) := by
  simp [State.takeStage, CommitState.isPending, idle, unread]

variable {t : Target} {f : EntryFields} (read : stageOf bs = some (t, f))
include read

theorem State.takeStage_foreign (foreign : s.ownsTarget a t = false) :
    s.takeStage a bs = (s, ⟨.lineNotOwned, .lineOf t⟩) := by
  simp [State.takeStage, CommitState.isPending, idle, read, foreign]

variable (own : s.ownsTarget a t = true)
include own

theorem State.takeStage_beyond {limit : PeriodLimit} (beyond : s.refusingPeriod f.offset = some limit) :
    s.takeStage a bs = (s, ⟨.offsetRange, .offsetRefused limit⟩) := by
  simp [State.takeStage, CommitState.isPending, idle, read, own, beyond]

variable (below : s.refusingPeriod f.offset = none)
include below

theorem State.takeStage_duplicate {e : Entry} (held : entryAt (s.session a).staging t f.offset none = some e) :
    s.takeStage a bs = (s, ⟨.duplicate, .handleOnly e.handle⟩) := by
  simp [State.takeStage, CommitState.isPending, idle, read, own, below, held]

variable (new : entryAt (s.session a).staging t f.offset none = none)
include new

theorem State.takeStage_full (full : (s.bound a).limit ≤ (s.session a).staging.length) :
    s.takeStage a bs = (s, ⟨.quotaFull, .quotaFull (s.bound a) (s.session a).staging.length⟩) := by
  simp [State.takeStage, CommitState.isPending, idle, read, own, below, new, full]

/-- The entry added, under the lowest free handle. -/
theorem State.takeStage_adds (room : (s.session a).staging.length < (s.bound a).limit) : s.takeStage a bs =
    (s.setStaging a
        (insertEntry ⟨freeHandle (s.session a).staging, t, f.action, f.offset, f.cadence⟩ (s.session a).staging),
      ⟨.ok, .staged (freeHandle (s.session a).staging) ((s.session a).staging.length + 1) (s.bound a).limit⟩) := by
  simp [State.takeStage, CommitState.isPending, idle, read, own, below, new, not_le.2 room,
    (insertEntry_perm _ (s.session a).staging).length_eq]

end

/-! ## AMEND_ENTRY (R67, R68) -/

section

variable (idle : (s.session a).commit = .none)
include idle

theorem State.takeAmend_unread (unread : handleOf (byteAt bs 0) = none ∨ entryFieldsOf bs = none) :
    s.takeAmend a bs = (s, refuse .badArgument) := by
  rcases unread with handle | fields
  · simp [State.takeAmend, CommitState.isPending, idle, handle]
  · cases handle : handleOf (byteAt bs 0) <;> simp [State.takeAmend, CommitState.isPending, idle, handle, fields]

variable {h : Nat} {f : EntryFields} (handle : handleOf (byteAt bs 0) = some h) (fields : entryFieldsOf bs = some f)
include handle fields

theorem State.takeAmend_absent (absent : entryUnder (s.session a).staging h = none) :
    s.takeAmend a bs = (s, refuse .noSuchHandle) := by
  simp [State.takeAmend, CommitState.isPending, idle, handle, fields, absent]

variable {e : Entry} (present : entryUnder (s.session a).staging h = some e)
include present

theorem State.takeAmend_unsuited (unsuited : f.action.suits e.target = false) :
    s.takeAmend a bs = (s, refuse .badArgument) := by
  simp [State.takeAmend, CommitState.isPending, idle, handle, fields, present, unsuited]

variable (suits : f.action.suits e.target = true)
include suits

theorem State.takeAmend_beyond {limit : PeriodLimit} (beyond : s.refusingPeriod f.offset = some limit) :
    s.takeAmend a bs = (s, ⟨.offsetRange, .offsetRefused limit⟩) := by
  simp [State.takeAmend, CommitState.isPending, idle, handle, fields, present, suits, beyond]

variable (below : s.refusingPeriod f.offset = none)
include below

theorem State.takeAmend_duplicate {other : Entry}
    (held : entryAt (s.session a).staging e.target f.offset (some h) = some other) :
    s.takeAmend a bs = (s, ⟨.duplicate, .handleOnly other.handle⟩) := by
  simp [State.takeAmend, CommitState.isPending, idle, handle, fields, present, suits, below, held]

theorem State.takeAmend_amends (new : entryAt (s.session a).staging e.target f.offset (some h) = none) :
    s.takeAmend a bs = (s.setStaging a (amendList (s.session a).staging h f), ⟨.ok, .handleOnly h⟩) := by
  simp [State.takeAmend, CommitState.isPending, idle, handle, fields, present, suits, below, new]

end

/-! ## WITHDRAW_ENTRY and CLEAR_STAGING (R69, R70) -/

section

variable (idle : (s.session a).commit = .none)
include idle

theorem State.takeWithdraw_unread (unread : handleOf (byteAt bs 0) = none) :
    s.takeWithdraw a bs = (s, refuse .badArgument) := by
  simp [State.takeWithdraw, CommitState.isPending, idle, unread]

theorem State.takeWithdraw_absent {h : Nat} (handle : handleOf (byteAt bs 0) = some h)
    (absent : entryUnder (s.session a).staging h = none) : s.takeWithdraw a bs = (s, refuse .noSuchHandle) := by
  simp [State.takeWithdraw, CommitState.isPending, idle, handle, absent]

theorem State.takeWithdraw_removes {h : Nat} {e : Entry} (handle : handleOf (byteAt bs 0) = some h)
    (present : entryUnder (s.session a).staging h = some e) : s.takeWithdraw a bs =
      (s.setStaging a ((s.session a).staging.filter fun x => x.handle != h),
        ⟨.ok, .entryWithdrawn e ((s.session a).staging.filter fun x => x.handle != h).length⟩) := by
  simp [State.takeWithdraw, CommitState.isPending, idle, handle, present]

theorem State.takeClear_clears :
    s.takeClear a = (s.setStaging a [], ⟨.ok, .removed (s.session a).staging.length⟩) := by
  simp [State.takeClear, CommitState.isPending, idle]

end

/-! ## A list that is frozen (R64) -/

section

variable {c : Cycle} (pending : (s.session a).commit = .pending c)
include pending

theorem State.takeStage_frozen : s.takeStage a bs = (s, refuse .stagingFrozen) := by
  simp [State.takeStage, CommitState.isPending, pending]

theorem State.takeAmend_frozen : s.takeAmend a bs = (s, refuse .stagingFrozen) := by
  simp [State.takeAmend, CommitState.isPending, pending]

theorem State.takeWithdraw_frozen : s.takeWithdraw a bs = (s, refuse .stagingFrozen) := by
  simp [State.takeWithdraw, CommitState.isPending, pending]

theorem State.takeClear_frozen : s.takeClear a = (s, refuse .stagingFrozen) := by
  simp [State.takeClear, CommitState.isPending, pending]

end

end

/-! ## The statements -/

/-- Settles O26: the checks of `State.takeStage` in their order, and the entry added to the list that they pass. -/
theorem stageEntryAddsOrIsRefused : Obligations.StageEntryAddsOrIsRefused := by
  unfold Obligations.StageEntryAddsOrIsRefused
  have answers {p : Agent} {tag : Byte} {bs : List Byte} {s u : State} {r : Reply} (accepts : s.Accepts p)
      (openState : (s.session p).state = .openState) (length : bs.length = 9)
      (takes : ((s.settle p).renewLease p).takeStage p bs = (u, r)) :
      exec (.stageEntry p tag bs) s = .next (u.respond p ⟨tag, 0x07, r.status, r.data⟩) :=
    exec_answers_open (c := .stageEntry) rfl accepts openState (List.mem_singleton.2 length) (by decide) takes
  constructor
  · intro p tag bs t f s accepts openState length commit
    have idle : (((s.settle p).renewLease p).session p).commit = .none := State.settled_commit.trans commit
    rw [← State.settled_staging]
    exact ⟨fun unread => answers accepts openState length (State.takeStage_unread idle unread),
      fun read foreign => answers accepts openState length (State.takeStage_foreign idle read foreign),
      fun limit read own beyond => answers accepts openState length (State.takeStage_beyond idle read own beyond),
      fun e read own below held =>
        answers accepts openState length (State.takeStage_duplicate idle read own below held),
      fun read own below new full =>
        answers accepts openState length (State.takeStage_full idle read own below new full)⟩
  · intro p tag bs t f s accepts openState length commit read own below new room small
    have idle : (((s.settle p).renewLease p).session p).commit = .none := State.settled_commit.trans commit
    obtain ⟨bound, free, lowest⟩ := freeHandle_lowest small
    refine ⟨freeHandle (s.session p).staging, bound, free, lowest, ?_⟩
    rw [← State.settled_staging] at new room ⊢
    have unheld : entryAt (((s.settle p).renewLease p).session p).staging t f.offset none = none :=
      entryAt_eq_none_iff.2 fun e mem target offset => absurd ⟨target, offset⟩ (new e mem)
    exact answers accepts openState length (State.takeStage_adds idle read own below unheld room)

/-- Settles O28: the checks of `State.takeAmend` in their order, and the fields replaced where they pass. -/
theorem amendEntryReplacesFields : Obligations.AmendEntryReplacesFields := by
  unfold Obligations.AmendEntryReplacesFields
  intro p tag bs h f s accepts openState length commit
  have answers {u : State} {r : Reply} (takes : ((s.settle p).renewLease p).takeAmend p bs = (u, r)) :
      exec (.amendEntry p tag bs) s = .next (u.respond p ⟨tag, 0x08, r.status, r.data⟩) :=
    exec_answers_open (c := .amendEntry) rfl accepts openState (List.mem_singleton.2 length) (by decide) takes
  have idle : (((s.settle p).renewLease p).session p).commit = .none := State.settled_commit.trans commit
  rw [← State.settled_staging]
  refine ⟨fun unread => answers (State.takeAmend_unread idle unread), fun handle fields =>
    ⟨fun absent => answers (State.takeAmend_absent idle handle fields absent), fun e present =>
      ⟨fun unsuited => answers (State.takeAmend_unsuited idle handle fields present unsuited), fun suits =>
        ⟨fun limit beyond => answers (State.takeAmend_beyond idle handle fields present suits beyond), fun below =>
          ⟨fun other held => answers (State.takeAmend_duplicate idle handle fields present suits below held),
            fun new => answers (State.takeAmend_amends idle handle fields present suits below new)⟩⟩⟩⟩⟩

/-- No rule of validation is broken by a list without entries (R70, R82). -/
theorem State.validate_nil (s : State) (a : Agent) : s.validate a [] = none :=
  if_neg (Nat.not_lt_zero _)

/-- Settles O29: the entry under the handle is filtered out of the list, or all of them are. -/
theorem withdrawAndClearRemoveEntries : Obligations.WithdrawAndClearRemoveEntries := by
  unfold Obligations.WithdrawAndClearRemoveEntries
  constructor
  · intro p tag h s accepts openState commit
    have answers {u : State} {r : Reply} (takes : ((s.settle p).renewLease p).takeWithdraw p [h] = (u, r)) :
        exec (.withdrawEntry p tag [h]) s = .next (u.respond p ⟨tag, 0x09, r.status, r.data⟩) :=
      exec_answers_open (c := .withdrawEntry) rfl accepts openState (List.mem_singleton.2 rfl) (by decide) takes
    have idle : (((s.settle p).renewLease p).session p).commit = .none := State.settled_commit.trans commit
    have handle (small : h.toNat < 128) : handleOf (byteAt [h] 0) = some h.toNat :=
      handleOf_eq_some_iff.2 ⟨small, rfl⟩
    rw [← State.settled_staging]
    exact ⟨fun large => answers (State.takeWithdraw_unread idle (handleOf_eq_none_iff.2 large)),
      fun small absent => answers (State.takeWithdraw_absent idle (handle small) absent),
      fun e small present => answers (State.takeWithdraw_removes idle (handle small) present)⟩
  · intro p tag s accepts openState
    have answers {u : State} {r : Reply} (takes : ((s.settle p).renewLease p).takeClear p = (u, r)) :
        exec (.clearStaging p tag []) s = .next (u.respond p ⟨tag, 0x0A, r.status, r.data⟩) :=
      exec_answers_open (c := .clearStaging) rfl accepts openState (List.mem_singleton.2 rfl) (by decide) takes
    rw [← State.settled_commit, ← State.settled_staging]
    exact ⟨fun idle => answers (State.takeClear_clears idle), fun c pending => answers (State.takeClear_frozen pending),
      s.validate_nil p⟩

/-- Settles O30: a PENDING commit is the first check of each editing command. -/
theorem pendingCommitFreezesStaging : Obligations.PendingCommitFreezesStaging := by
  unfold Obligations.PendingCommitFreezesStaging
  intro p tag bs c s accepts openState commit
  have pending : (((s.settle p).renewLease p).session p).commit = .pending c := State.settled_commit.trans commit
  have frozen {i : Instr} {cmd : Command} (frame : i.frame? = some ⟨p, cmd.code, tag, bs⟩)
      (permitted : bs.length ∈ cmd.lengths) (other : cmd ≠ .openSession)
      (takes : ((s.settle p).renewLease p).take p bs cmd = ((s.settle p).renewLease p, refuse .stagingFrozen)) :
      exec i s = .next (s.answered p ⟨tag, cmd.code, .stagingFrozen, .none⟩) :=
    exec_answers_open frame accepts openState permitted other takes
  exact ⟨
    fun length => frozen (cmd := .stageEntry) rfl (List.mem_singleton.2 length) (by decide)
      (State.takeStage_frozen pending),
    fun length => frozen (cmd := .amendEntry) rfl (List.mem_singleton.2 length) (by decide)
      (State.takeAmend_frozen pending),
    fun length => frozen (cmd := .withdrawEntry) rfl (List.mem_singleton.2 length) (by decide)
      (State.takeWithdraw_frozen pending),
    fun length => frozen (cmd := .clearStaging) rfl (List.mem_singleton.2 length) (by decide)
      (State.takeClear_frozen pending)⟩

/-! ## The reads (R72, R73, R151) -/

section

variable {s : State} {p : Agent}

theorem State.takeReadStaged_page {start : Byte} (small : start.toNat < 128) : s.takeReadStaged p [start] =
    (s, ⟨.ok, .stagedPage (s.session p).commit (s.session p).staging.length (s.bound p)
      (nextHandle (s.session p).staging start.toNat) (pageOf (s.session p).staging start.toNat)⟩) := by
  have handle : handleOf (byteAt [start] 0) = some start.toNat := handleOf_eq_some_iff.2 ⟨small, rfl⟩
  rw [State.takeReadStaged, handle]

theorem State.takeReadStaged_unread {start : Byte} (large : 128 ≤ start.toNat) :
    s.takeReadStaged p [start] = (s, refuse .badArgument) := by
  have handle : handleOf (byteAt [start] 0) = none := handleOf_eq_none_iff.2 large
  rw [State.takeReadStaged, handle]

theorem State.takeReadActive_page (a : Agent) {start : Byte} (small : start.toNat < 128) :
    s.takeReadActive [byte a.val, start] =
      (s, ⟨.ok, .activePage a (s.session a).active.length (s.session a).applied
        (nextHandle (s.session a).active start.toNat) (pageOf (s.session a).active start.toNat)⟩) := by
  have handle : handleOf (byteAt [byte a.val, start] 1) = some start.toNat := handleOf_eq_some_iff.2 ⟨small, rfl⟩
  have agent : indexBelow 4 (byteAt [byte a.val, start] 0) = some a :=
    indexBelow_eq_some_iff.2 (toNat_byte (by omega))
  rw [State.takeReadActive, agent, handle]

theorem State.takeReadActive_unread {agent start : Byte} (bad : 4 ≤ agent.toNat ∨ 128 ≤ start.toNat) :
    s.takeReadActive [agent, start] = (s, refuse .badArgument) := by
  unfold State.takeReadActive
  split
  · next b h index handle =>
    rw [indexBelow_eq_some_iff] at index
    rw [handleOf_eq_some_iff] at handle
    change agent.toNat = b.val at index
    change start.toNat < 128 ∧ _ at handle
    omega
  · rfl
  · rfl

/-- Settles O31: each read answers of the state as the renewed lease leaves it, and the lease concerns no list, no
setting and no ballot. -/
theorem readsReportAndChangeNothing : Obligations.ReadsReportAndChangeNothing := by
  unfold Obligations.ReadsReportAndChangeNothing
  intro p tag s accepts
  have staged (bs : List Byte) (present : (s.session p).state.present = true) :
      (Command.readStaged.row bs).refusal (s.session p).state = none := AdmissionRow.whilePresent_refusal present
  have active (bs : List Byte) (present : (s.session p).state.present = true) :
      (Command.readActive.row bs).refusal (s.session p).state = none := AdmissionRow.whilePresent_refusal present
  refine ⟨fun start present small => ?_, fun start present large => ?_, fun a start present small => ?_,
    fun agent start present bad => ?_, fun present => ?_, fun openState => ?_⟩
  · rw [← State.settled_commit, ← State.settled_staging]
    exact exec_answers (c := .readStaged) rfl accepts (List.mem_singleton.2 rfl) (staged _ present)
      (State.takeReadStaged_page small)
  · exact exec_answers (c := .readStaged) rfl accepts (List.mem_singleton.2 rfl) (staged _ present)
      (State.takeReadStaged_unread large)
  · rw [← State.settled_active (p := p), ← State.settled_applied (p := p)]
    exact exec_answers (c := .readActive) rfl accepts (List.mem_singleton.2 rfl) (active _ present)
      (State.takeReadActive_page a small)
  · exact exec_answers (c := .readActive) rfl accepts (List.mem_singleton.2 rfl) (active _ present)
      (State.takeReadActive_unread bad)
  · exact exec_answers (c := .readSettings) rfl accepts (List.mem_singleton.2 rfl)
      (AdmissionRow.whilePresent_refusal present) rfl
  · exact exec_answers_open (c := .readBallot) rfl accepts openState (List.mem_singleton.2 rfl) (by decide) rfl

end

end Sys2Proof.Machine
end

section
/-! SUPPORT. The timetable within the settings (R56, R57, R60 to R63, R139): what it rests on, and the operations that
only take entries away, move them with an exchange, or change to settings that a standing ballot has announced. -/

namespace Sys2Proof.Machine

/-! ## Settings in view -/

/-- A record of settings that the lists must fit: the one in force, or the one that a standing proposal leads to. -/
def State.InView (s : State) (st : Settings) : Prop :=
  st = s.settings ∨ ∃ p, s.ballot.slot.proposal? = some p ∧ st = s.settings.updated p

/-- The settings have room for the entries of every agent (R57, R63). -/
structure Settings.Allows (st : Settings) (s : State) : Prop where
  offsets : ∀ a, s.EntriesBelow st.period a
  counts : ∀ a, (s.session a).staging.length ≤ st.quota.read a ∧ (s.session a).active.length ≤ st.quota.read a
  quota : ∀ a, st.quota.read a ≤ 128

@[simp] theorem Settings.updated_quota (st : Settings) (p : Proposal) (a : Agent) :
    (st.updated p).quota.read a = (p.quota.read a).getD (st.quota.read a) := Bank.read_build _ a

/-- The timetable fits where every list is one, and all settings in view have room for them. -/
theorem timetableFits_iff (s : State) : TimetableFits s ↔
    (∀ a, EntriesFit (s.session a).staging ∧ EntriesFit (s.session a).active)
    ∧ ∀ st, s.InView st → st.Allows s := by
  constructor
  · intro h
    refine ⟨fun a => ⟨h.staged a, h.active a⟩, ?_⟩
    rintro st (rfl | ⟨p, stands, rfl⟩)
    · exact ⟨h.offsets, h.counts, h.quota⟩
    · refine ⟨fun a e held => ?_, fun a => ?_, fun a => ?_⟩
      · show e.offset < p.period.getD s.settings.period
        cases proposed : p.period with
        | none => exact h.offsets a e held
        | some k => exact h.proposedOffsets p k stands proposed a e held
      · rw [Settings.updated_quota]
        cases proposed : p.quota.read a with
        | none => exact h.counts a
        | some k => exact h.proposedCounts p a k stands proposed
      · rw [Settings.updated_quota]
        cases proposed : p.quota.read a with
        | none => exact h.quota a
        | some k => exact h.proposedQuota p a k stands proposed
  · rintro ⟨lists, allows⟩
    have inForce := allows _ (.inl rfl)
    have announced {p : Proposal} (stands : s.ballot.slot.proposal? = some p) : (s.settings.updated p).Allows s :=
      allows _ (.inr ⟨p, stands, rfl⟩)
    have period {p : Proposal} {k : Nat} (present : p.period = some k) : (s.settings.updated p).period = k := by
      rw [Settings.updated, present, Option.getD_some]
    have quota {p : Proposal} {a : Agent} {k : Nat} (present : p.quota.read a = some k) :
        (s.settings.updated p).quota.read a = k := by
      rw [Settings.updated_quota, present, Option.getD_some]
    exact {
      staged := fun a => (lists a).1
      active := fun a => (lists a).2
      offsets := inForce.offsets
      proposedOffsets := fun p k stands present a => period present ▸ (announced stands).offsets a
      counts := inForce.counts
      proposedCounts := fun p a k stands present => quota present ▸ (announced stands).counts a
      quota := inForce.quota
      proposedQuota := fun p a k stands present => quota present ▸ (announced stands).quota a }

/-- An offset that no period refuses lies below the period of all settings in view (R57). -/
theorem State.refusingPeriod_eq_none {s : State} {offset : Nat} (passes : s.refusingPeriod offset = none)
    {st : Settings} (inView : s.InView st) : offset < st.period := by
  have below : offset < s.settings.period := by
    by_contra beyond
    rw [State.refusingPeriod_of_beyond (not_lt.1 beyond)] at passes
    cases passes
  rcases inView with rfl | ⟨p, stands, rfl⟩
  · exact below
  · show offset < p.period.getD s.settings.period
    cases proposed : p.period with
    | none => exact below
    | some k =>
      rw [State.refusingPeriod_of_proposed stands below proposed, ite_eq_right_iff] at passes
      exact not_le.1 fun beyond => by cases passes beyond

/-- The bound of a list is at most the quota of all settings in view (R63). -/
theorem State.bound_le {s : State} {st : Settings} (inView : s.InView st) (a : Agent) :
    (s.bound a).limit ≤ st.quota.read a := by
  have quota : (s.bound a).limit ≤ s.settings.quota.read a := by
    cases stands : s.ballot.slot.proposal? with
    | none => rw [State.bound_of_empty stands]
    | some p =>
      cases proposed : p.quota.read a with
      | none => rw [State.bound_of_unproposed stands proposed]
      | some k =>
        rw [State.bound_of_proposed stands proposed]
        split
        · next lower => exact lower.le
        · exact le_rfl
  rcases inView with rfl | ⟨p, stands, rfl⟩
  · exact quota
  · rw [Settings.updated_quota]
    cases proposed : p.quota.read a with
    | none => exact quota
    | some k =>
      rw [State.bound_of_proposed stands proposed]
      split
      · exact le_rfl
      · next lower => exact not_lt.1 lower

/-! ## Lists that come from others -/

theorem EntriesFit.sublist {list part : List Entry} (h : EntriesFit list) (sub : part.Sublist list) :
    EntriesFit part :=
  ⟨fun e mem => h.legal e (sub.subset mem), h.ascending.sublist sub, h.distinct.sublist sub⟩

/-- The lists of a later record hold entries of an earlier one's, as they stood there; an exchange moves staged entries
(R88). -/
structure Session.ListsFrom (q r : Session) : Prop where
  staging : r.staging.Sublist q.staging
  active : r.active.Sublist q.active ∨ r.active.Sublist q.staging

namespace Session.ListsFrom

variable {q r x : Session}

theorem of_same (staging : r.staging = q.staging) (active : r.active = q.active) : q.ListsFrom r :=
  ⟨by rw [staging], .inl (by rw [active])⟩

theorem refl (q : Session) : q.ListsFrom q := of_same rfl rfl

theorem trans (h : q.ListsFrom r) (k : r.ListsFrom x) : q.ListsFrom x where
  staging := k.staging.trans h.staging
  active := by
    rcases k.active with active | staging
    · exact h.active.imp active.trans active.trans
    · exact .inr (staging.trans h.staging)

theorem of_sameRecord (h : q.SameRecord r) : q.ListsFrom r := of_same h.staging h.active

theorem of_exchanged {n : Cycle} (h : q.Exchanged n r) : q.ListsFrom r := by
  refine ⟨by rw [h.staging], ?_⟩
  cases commit : q.commit with
  | none => exact .inl (by rw [(h.none commit).1])
  | pending c => exact .inr (by rw [(h.pending c commit).1])

theorem vacant (q : Session) (state : SessionState) (epoch : Byte) : q.ListsFrom (.vacant state epoch) :=
  ⟨List.nil_sublist _, .inl (List.nil_sublist _)⟩

end Session.ListsFrom

/-- From `s` to `t`, no settings come into view, and no entries but those that were held. -/
structure State.Inherits (s t : State) : Prop where
  inView : ∀ st, t.InView st → s.InView st
  lists : ∀ a, (s.session a).ListsFrom (t.session a)

theorem Settings.Allows.inherit {st : Settings} {s t : State} (h : st.Allows s) (k : s.Inherits t) : st.Allows t where
  offsets a e held := by
    refine h.offsets a e ?_
    rcases held with staged | active
    · exact .inl ((k.lists a).staging.subset staged)
    · exact ((k.lists a).active.imp (·.subset active) (·.subset active)).symm
  counts a := by
    obtain ⟨staging, active⟩ := h.counts a
    exact ⟨(k.lists a).staging.length_le.trans staging,
      (k.lists a).active.elim (fun sub => sub.length_le.trans active) fun sub => sub.length_le.trans staging⟩
  quota := h.quota

theorem TimetableFits.inherit {s t : State} (h : TimetableFits s) (k : s.Inherits t) : TimetableFits t := by
  obtain ⟨lists, allows⟩ := (timetableFits_iff s).1 h
  refine (timetableFits_iff t).2 ⟨fun a => ⟨(lists a).1.sublist (k.lists a).staging, ?_⟩,
    fun st inView => (allows st (k.inView st inView)).inherit k⟩
  exact (k.lists a).active.elim (lists a).2.sublist (lists a).1.sublist

namespace State.Inherits

variable {s t u : State}

theorem trans (h : s.Inherits t) (k : t.Inherits u) : s.Inherits u :=
  ⟨fun st inView => h.inView st (k.inView st inView), fun a => (h.lists a).trans (k.lists a)⟩

/-- The settings stay, and no proposal is made. -/
theorem of_lists (settings : t.settings = s.settings)
    (proposal : ∀ p, t.ballot.slot.proposal? = some p → s.ballot.slot.proposal? = some p)
    (lists : ∀ a, (s.session a).ListsFrom (t.session a)) : s.Inherits t where
  inView := by
    rintro st (rfl | ⟨p, stands, rfl⟩)
    · exact .inl settings
    · exact .inr ⟨p, proposal p stands, by rw [settings]⟩
  lists := lists

theorem of_eq (settings : t.settings = s.settings) (ballot : t.ballot = s.ballot) (sessions : t.sessions = s.sessions) :
    s.Inherits t :=
  .of_lists settings (fun p stands => by rwa [ballot] at stands)
    fun a => .of_same (by rw [State.session, sessions]; rfl) (by rw [State.session, sessions]; rfl)

theorem refl (s : State) : s.Inherits s := .of_eq rfl rfl rfl

/-- What concerns neither settings, ballot nor sessions may come first. -/
theorem after (h : t.Inherits u) (settings : t.settings = s.settings) (ballot : t.ballot = s.ballot)
    (sessions : t.sessions = s.sessions) : s.Inherits u := trans (of_eq settings ballot sessions) h

theorem of_served (h : s.Served t) : s.Inherits t :=
  .of_lists h.settings (fun p stands => by rwa [h.ballot] at stands) fun a => .of_sameRecord (h.records a)

theorem of_tornDown {after : SessionState} {gone : List Agent} (h : s.TornDown after gone t) : s.Inherits t := by
  refine .of_lists h.settings h.proposal fun a => ?_
  by_cases leaves : a ∈ gone
  · rw [h.ended a leaves]
    exact .vacant _ _ _
  · exact .of_sameRecord (h.kept a leaves)

end State.Inherits

/-! ## Operations on sessions, slot and settings -/

section

variable (s : State)

theorem State.inherits_setSession {a : Agent} {q : Session} (lists : (s.session a).ListsFrom q) :
    s.Inherits (s.setSession a q) := by
  refine .of_lists rfl (fun _ stands => stands) fun b => ?_
  rw [State.session_setSession]
  split
  · next same => rw [same]; exact lists
  · exact .refl _

theorem State.inherits_notifyEach (n : Cycle) (k : NoticeKind) (who : Agent → Bool) :
    s.Inherits (s.notifyEach n k who) := .of_served (s.served_notifyEach n k who)

/-- A slot in which no new proposal stands. -/
theorem State.inherits_withBallot {b : Ballot}
    (proposal : ∀ p, b.slot.proposal? = some p → s.ballot.slot.proposal? = some p) :
    s.Inherits { s with ballot := b } := .of_lists rfl proposal fun _ => .refl _

theorem State.inherits_emptySlot : s.Inherits s.emptySlot := s.inherits_withBallot fun _ stands => by cases stands

theorem Settings.updated_updated (st : Settings) (p : Proposal) : (st.updated p).updated p = st.updated p := by
  have again {α : Type} (x : Option α) (y : α) : x.getD (x.getD y) = x.getD y := by cases x <;> rfl
  simp only [Settings.updated, Bank.read_build, again]

/-- The settings of a standing proposal were in view before they are applied (R149). -/
theorem State.inherits_applySettings {s : State} {p : Proposal} (stands : s.ballot.slot.proposal? = some p) :
    s.Inherits (s.applySettings p) where
  inView := by
    rintro st (rfl | ⟨q, still, rfl⟩)
    · exact .inr ⟨p, stands, s.applySettings_settings p⟩
    · rw [State.applySettings_ballot, stands] at still
      cases still
      exact .inr ⟨p, stands, by rw [State.applySettings_settings, Settings.updated_updated]⟩
  lists a := by
    have same : (s.applySettings p).session a = s.session a := by rw [State.session, applySettings_sessions]; rfl
    rw [same]
    exact .refl _

theorem State.inherits_beginCycle : s.Inherits s.beginCycle :=
  .after (.of_served s.served_beginCycle) rfl rfl rfl

theorem State.inherits_applyIfIdle : s.Inherits s.applyIfIdle := by
  unfold State.applyIfIdle
  split
  · next b p slot =>
    split
    · exact .refl s
    · have begun : (s.applySettings p).Inherits ((s.applySettings p).beginIfStarted s.time.run) := by
        unfold State.beginIfStarted
        split
        · exact State.inherits_beginCycle _
        · exact .refl _
      have told (t : State) : t.Inherits (t.notifyIfChanged s.time.run) := by
        unfold State.notifyIfChanged
        split
        · exact .refl t
        · exact t.inherits_notifyEach _ _ _
      exact (State.inherits_applySettings (by rw [slot]; rfl)).trans
        (begun.trans (.trans (State.inherits_emptySlot _) (.trans (told _) (State.inherits_notifyEach _ _ _ _))))
  · exact .refl s
  · exact .refl s

/-! ## Ballots that close, leases, and teardowns -/

theorem State.inherits_failBallot (n : Cycle) (b : OpenBallot) (reason : FailReason) :
    s.Inherits (s.failBallot n b reason) :=
  .trans (s.inherits_notifyEach _ _ _) (State.inherits_withBallot _ fun _ stands => by cases stands)

theorem State.inherits_passBallot {s : State} (n : Cycle) {b : OpenBallot}
    (stands : s.ballot.slot.proposal? = some b.proposal) : s.Inherits (s.passBallot n b) :=
  .trans (s.inherits_notifyEach _ _ _) (State.inherits_withBallot _ fun _ passed => stands.trans passed)

theorem State.inherits_holdOrPass {s : State} (n : Cycle) {b : OpenBallot}
    (stands : s.ballot.slot.proposal? = some b.proposal) : s.Inherits (s.holdOrPass n b) := by
  unfold State.holdOrPass
  split
  · exact State.inherits_passBallot n stands
  · exact s.inherits_withBallot fun _ held => stands.trans held

theorem State.inherits_leaveBallot (n : Cycle) (a : Agent) : s.Inherits (s.leaveBallot n a) := by
  obtain ⟨k, who, b, left, proposal⟩ := s.leaveBallot_cases n a
  rw [left]
  exact .trans (s.inherits_notifyEach n k who) (State.inherits_withBallot _ proposal)

theorem State.inherits_expireDeadline : s.Inherits s.expireDeadline := by
  unfold State.expireDeadline
  split
  · split
    · exact s.inherits_failBallot _ _ _
    · exact .refl s
  · exact .refl s
  · exact .refl s

theorem State.inherits_tearDownNow (a : Agent) {after : SessionState} (reason : LeaveReason)
    (departs : after.present = false) : s.Inherits (s.tearDownNow a after reason) :=
  .trans (.of_tornDown (s.tornDown_tearDown _ a reason departs)) (State.inherits_applyIfIdle _)

theorem State.inherits_expireLease (a : Agent) : s.Inherits (s.expireLease a) := by
  unfold State.expireLease
  split
  · exact s.inherits_tearDownNow a .expired rfl
  · exact .refl s

theorem State.inherits_resetSession (a : Agent) : s.Inherits (s.resetSession a) := by
  unfold State.resetSession
  split
  · exact s.inherits_tearDownNow a .portReset rfl
  · exact s.inherits_setSession (.of_same rfl rfl)

theorem State.inherits_renewLease (a : Agent) : s.Inherits (s.renewLease a) :=
  s.inherits_setSession (.of_same (Session.renew_staging _) (Session.renew_active _))

theorem State.inherits_lowerLeases : s.Inherits s.lowerLeases := by
  refine .of_lists rfl (fun p stands => ?_) fun a => ?_
  · rw [← stands]
    show s.ballot.slot.proposal? = s.ballot.slot.lowerDeadline.proposal?
    cases s.ballot.slot <;> rfl
  · have lowered : s.lowerLeases.session a = (s.session a).lowerLease := Bank.read_build _ a
    rw [lowered, Session.lowerLease]
    split
    · exact .of_same rfl rfl
    · exact .refl _

/-! ## Boundaries (R13, R14) -/

theorem State.inherits_exchangeAll (n : Cycle) : s.Inherits (s.exchangeAll n) := by
  refine .of_lists (s.exchangeAll_settings n) (fun p stands => ?_) fun a => ?_
  · rwa [State.exchangeAll_ballot] at stands
  · rw [State.exchangeAll_session]
    exact .of_exchanged (s.exchanged_exchanged n a)

theorem State.inherits_applyAtBoundary (n : Cycle) : s.Inherits (s.applyAtBoundary n) := by
  unfold State.applyAtBoundary
  split
  · next slot =>
    exact .trans (State.inherits_applySettings (by rw [slot]; rfl))
      (.trans (State.inherits_emptySlot _) (State.inherits_notifyEach _ _ _ _))
  · exact .refl s
  · exact .refl s

theorem State.inherits_retimed (t : TimeBase) (arisen : List Event) : s.Inherits (s.retimed t arisen) :=
  .of_eq rfl rfl rfl

theorem State.inherits_boundary (normal : Bool) : s.Inherits (s.boundary normal) := by
  have closed : s.Inherits (s.cycleClosed normal) :=
    .of_lists (s.cycleClosed_settings normal) (fun p stands => by rwa [State.cycleClosed_ballot] at stands)
      fun a => .of_sameRecord (s.cycleClosed_records normal a)
  have applied : (s.cycleClosed normal).Inherits (s.ballotApplied normal) :=
    .trans (State.inherits_exchangeAll _ _) (State.inherits_applyAtBoundary _ _)
  have lapsed : (s.ballotApplied normal).Inherits (s.deferralsLapsed normal) :=
    .trans (.of_tornDown (s.tornDown_closingTornDown normal)) (.of_served (s.served_deferralsLapsed normal))
  obtain ⟨arisen, served⟩ := s.served_boundary normal
  have completed : (s.deferralsLapsed normal).Inherits (s.boundary normal) :=
    (State.inherits_retimed _ _ _).trans (.of_served served)
  exact closed.trans (applied.trans (lapsed.trans completed))

/-! ## Count advances, trigger edges, gate changes and capture edges (R1, R7, R9, R123) -/

theorem State.inherits_reach (count : Nat) : s.Inherits (s.reach count) :=
  .after (.of_served (s.served_reach count)) rfl rfl rfl

theorem State.inherits_advanceCount : s.Inherits s.advanceCount := by
  by_cases run : s.time.run = .running
  · rcases Nat.lt_or_ge (s.time.count + 1) s.settings.period with inside | last
    · exact .after (.of_served (s.advanceCount_served run inside)) rfl rfl rfl
    · rw [s.advanceCount_last run last]
      exact .after (State.inherits_boundary _ true) rfl rfl rfl
  · rw [s.advanceCount_idle run]
    exact .refl s

theorem State.inherits_useTrigger : s.Inherits s.useTrigger := by
  by_cases start : s.time.run = .armed ∧ s.settings.mode = .triggered
  · rw [s.useTrigger_start start.1 start.2, State.triggerStart_eq]
    exact .after (.trans (State.inherits_beginCycle _) (State.inherits_notifyEach _ _ _ _)) rfl rfl rfl
  · by_cases restart : s.time.run = .running ∧ s.settings.mode = .restart
    · rw [s.useTrigger_restart restart.1 restart.2]
      exact s.inherits_boundary false
    · rw [s.useTrigger_other start restart]
      exact .refl s

theorem State.inherits_takeTriggerEdge : s.Inherits s.takeTriggerEdge := by
  unfold State.takeTriggerEdge
  split
  · exact .refl s
  · exact .after (State.inherits_useTrigger _) rfl rfl rfl

theorem State.inherits_useGate (level : Level) : s.Inherits (s.useGate level) := by
  by_cases acts : s.settings.mode = .gated
      ∧ ((s.time.run = .running ∧ level = .low) ∨ (s.time.run = .held ∧ level = .high))
  · obtain ⟨mode, ⟨run, rfl⟩ | ⟨run, rfl⟩⟩ := acts
    · rw [s.useGate_hold mode run]
      exact .of_eq rfl rfl rfl
    · rw [s.useGate_resume mode run]
      split
      · exact .of_eq rfl rfl rfl
      · exact .after (State.inherits_reach _ 0) rfl rfl rfl
  · rw [s.useGate_other level acts]
    exact .refl s

theorem State.inherits_takeGateChange (level : Level) : s.Inherits (s.takeGateChange level) := by
  unfold State.takeGateChange
  split
  · exact .refl s
  · exact .after (State.inherits_useGate _ level) rfl rfl rfl

theorem State.inherits_takeEdge (i : Sense) (e : Edge) : s.Inherits (s.takeEdge i e) := by
  unfold State.takeEdge
  dsimp only
  split
  · exact .of_eq rfl rfl rfl
  · split
    · split
      · exact .of_eq rfl rfl rfl
      · exact .after (.of_served (State.served_makeRecord _ _ _ _)) rfl rfl rfl
    · exact .of_eq rfl rfl rfl

theorem State.inherits_runOutBudget : s.Inherits s.runOutBudget := by
  unfold State.runOutBudget
  split
  · split
    · exact .after (State.inherits_boundary _ true) rfl rfl rfl
    · split
      · exact s.inherits_boundary false
      · exact .refl s
  · exact .refl s

theorem State.inherits_endPulse (d : Drive) : s.Inherits (s.endPulse d) := by
  unfold State.endPulse
  split <;> exact .of_eq rfl rfl rfl

theorem State.inherits_endGuard (d : Drive) : s.Inherits (s.endGuard d) := by
  unfold State.endGuard
  split <;> exact .of_eq rfl rfl rfl

theorem State.inherits_tickDivider : s.Inherits s.tickDivider := by
  unfold State.tickDivider
  split
  · split <;> exact .of_eq rfl rfl rfl
  · exact .refl s

theorem State.inherits_tickLease : s.Inherits s.tickLease := by
  unfold State.tickLease
  split <;> exact .of_eq rfl rfl rfl

end

end Sys2Proof.Machine
end

section
/-! SUPPORT. The timetable within the settings is kept by the commands that write a list (R65, R67), by PROPOSE (R139) and
by every other command, and with that by every step (O7). -/

namespace Sys2Proof.Machine

/-! ## An entry added or amended -/

/-- Legal fields make a legal entry, with a handle in range and a target that the action suits. -/
theorem EntryFields.Legal.entry {f : EntryFields} (h : f.Legal) {handle : Nat} {t : Target} (inRange : handle < 128)
    (suits : f.action.suits t = true) : Entry.Legal ⟨handle, t, f.action, f.offset, f.cadence⟩ :=
  ⟨inRange, suits, h.offset, h.width, h.cadence⟩

/-- An entry with a new handle takes its place in handle order (R60). -/
theorem insertEntry_ascending {e : Entry} {list : List Entry}
    (ascending : list.Pairwise fun x y => x.handle < y.handle) (fresh : ∀ x ∈ list, x.handle ≠ e.handle) :
    (insertEntry e list).Pairwise fun x y => x.handle < y.handle := by
  induction list with
  | nil => exact List.pairwise_singleton _ _
  | cons x rest ih =>
    obtain ⟨first, ascending⟩ := List.pairwise_cons.1 ascending
    obtain ⟨ne, fresh⟩ := List.forall_mem_cons.1 fresh
    unfold insertEntry
    split
    · next before =>
      refine .cons (List.forall_mem_cons.2 ⟨before, fun y mem => before.trans (first y mem)⟩) (.cons first ascending)
    · next after =>
      refine .cons (fun y mem => ?_) (ih ascending fresh)
      rcases mem_insertEntry mem with rfl | mem
      · omega
      · exact first y mem

/-- A legal entry with a new handle and a new target and offset may join a list (R60 to R62). -/
theorem EntriesFit.insert {e : Entry} {list : List Entry} (h : EntriesFit list) (legal : e.Legal)
    (fresh : ∀ x ∈ list, x.handle ≠ e.handle) (new : ∀ x ∈ list, ¬ (x.target = e.target ∧ x.offset = e.offset)) :
    EntriesFit (insertEntry e list) where
  legal x mem := by
    rcases mem_insertEntry mem with rfl | mem
    · exact legal
    · exact h.legal x mem
  ascending := insertEntry_ascending h.ascending fresh
  distinct := by
    have symmetric {x y : Entry} (apart : ¬ (x.target = y.target ∧ x.offset = y.offset)) :
        ¬ (y.target = x.target ∧ y.offset = x.offset) := fun same => apart ⟨same.1.symm, same.2.symm⟩
    refine ((insertEntry_perm e list).pairwise_iff symmetric).2 (.cons (fun x mem => ?_) h.distinct)
    exact symmetric (new x mem)

/-- No two entries of a list share a handle. -/
theorem EntriesFit.eq_of_handle {list : List Entry} (h : EntriesFit list) {x y : Entry} (memX : x ∈ list)
    (memY : y ∈ list) (same : x.handle = y.handle) : x = y := by
  have handles : (list.map Entry.handle).Nodup := List.pairwise_map.2 (h.ascending.imp Nat.ne_of_lt)
  exact List.inj_on_of_nodup_map handles memX memY same

/-- What an amendment of the entry under a handle makes of an entry (R68). -/
def Entry.amended (handle : Nat) (f : EntryFields) (e : Entry) : Entry :=
  if e.handle = handle then ⟨e.handle, e.target, f.action, f.offset, f.cadence⟩ else e

theorem amendList_eq (list : List Entry) (handle : Nat) (f : EntryFields) :
    amendList list handle f = list.map (Entry.amended handle f) := rfl

@[simp] theorem Entry.amended_handle (handle : Nat) (f : EntryFields) (e : Entry) :
    (e.amended handle f).handle = e.handle := by
  unfold Entry.amended
  split <;> rfl

@[simp] theorem Entry.amended_target (handle : Nat) (f : EntryFields) (e : Entry) :
    (e.amended handle f).target = e.target := by
  unfold Entry.amended
  split <;> rfl

theorem Entry.amended_offset (handle : Nat) (f : EntryFields) (e : Entry) :
    (e.amended handle f).offset = if e.handle = handle then f.offset else e.offset := by
  unfold Entry.amended
  split <;> rfl

/-- An entry may take legal fields that suit its target, at an offset that no other entry on the target has (R67). -/
theorem EntriesFit.amend {list : List Entry} (h : EntriesFit list) {e : Entry} {f : EntryFields} (mem : e ∈ list)
    (legal : f.Legal) (suits : f.action.suits e.target = true)
    (new : ∀ x ∈ list, x.target = e.target → x.offset = f.offset → x.handle = e.handle) :
    EntriesFit (amendList list e.handle f) := by
  rw [amendList_eq]
  constructor
  case legal =>
    intro y amended
    obtain ⟨x, held, rfl⟩ := List.mem_map.1 amended
    unfold Entry.amended
    split
    · next same =>
      obtain rfl := h.eq_of_handle held mem same
      exact legal.entry (h.legal x held).handle suits
    · exact h.legal x held
  case ascending => simpa only [List.pairwise_map, Entry.amended_handle] using h.ascending
  case distinct =>
    rw [List.pairwise_map]
    refine (h.ascending.and h.distinct).imp_of_mem fun {x y} memX memY ⟨before, apart⟩ => ?_
    simp only [Entry.amended_target, Entry.amended_offset]
    rintro ⟨target, offset⟩
    split at offset
    · next first =>
      obtain rfl := h.eq_of_handle memX mem first
      rw [if_neg before.ne'] at offset
      exact before.ne' (new y memY target.symm offset.symm)
    · next first =>
      split at offset
      · next second =>
        obtain rfl := h.eq_of_handle memY mem second
        exact first (new x memX target offset)
      · exact apart ⟨target, offset⟩

/-! ## The commands that write a list -/

section

variable {s : State} (h : TimetableFits s) {a : Agent} (bs : List Byte)
include h

/-- A list of the agent may be replaced by one that fits, with offsets that no period refuses, and at most as many entries
as its bound or as before. -/
theorem TimetableFits.setStaging {list : List Entry} (entries : EntriesFit list)
    (offsets : ∀ e ∈ list, e ∈ (s.session a).staging ∨ s.refusingPeriod e.offset = none)
    (count : list.length ≤ (s.session a).staging.length ∨ list.length ≤ (s.bound a).limit) :
    TimetableFits (s.setStaging a list) := by
  obtain ⟨lists, allows⟩ := (timetableFits_iff s).1 h
  have staging (b : Agent) : ((s.setStaging a list).session b).staging =
      if b = a then list else (s.session b).staging := by
    rw [State.setStaging, State.session_setSession]
    split <;> rfl
  have active (b : Agent) : ((s.setStaging a list).session b).active = (s.session b).active := by
    rw [State.setStaging, State.session_setSession]
    split
    · next same => rw [same]
    · rfl
  refine (timetableFits_iff _).2 ⟨fun b => ⟨?_, ?_⟩, fun st inView => ?_⟩
  · rw [staging]
    split
    · exact entries
    · exact (lists b).1
  · rw [active]
    exact (lists b).2
  · have before : s.InView st := inView
    obtain ⟨inside, room, quota⟩ := allows st before
    refine ⟨fun b e held => ?_, fun b => ⟨?_, ?_⟩, quota⟩
    · rw [staging, active] at held
      rcases held with staged | running
      · split at staged
        · rcases offsets e staged with held | passes
          · exact inside a e (.inl held)
          · exact State.refusingPeriod_eq_none passes before
        · exact inside b e (.inl staged)
      · exact inside b e (.inr running)
    · rw [staging]
      split
      · next same =>
        rw [same]
        exact count.elim (fun fewer => fewer.trans (room a).1) fun bound => bound.trans (State.bound_le before a)
      · exact (room b).1
    · rw [active]
      exact (room b).2

theorem TimetableFits.takeStage : TimetableFits (s.takeStage a bs).1 := by
  unfold State.takeStage
  dsimp only
  split
  · exact h
  split
  · exact h
  next t f read =>
  split
  · exact h
  split
  · exact h
  next below =>
  split
  · exact h
  next new =>
  split
  · exact h
  next room =>
  rw [not_le] at room
  obtain ⟨-, fields, suits⟩ := stageOf_eq_some_iff.1 read
  have small : (s.session a).staging.length < 128 :=
    room.trans_le ((State.bound_le (.inl rfl) a).trans (h.quota a))
  obtain ⟨inRange, free, -⟩ := freeHandle_lowest small
  refine h.setStaging ?_ (fun e mem => ?_) (.inr ?_)
  · refine (h.staged a).insert ((EntryFields.legal_of_read fields).entry inRange suits) free fun x mem same => ?_
    cases entryAt_eq_none_iff.1 new x mem same.1 same.2
  · rcases mem_insertEntry mem with rfl | mem
    · exact .inr below
    · exact .inl mem
  · rw [(insertEntry_perm _ _).length_eq]
    exact room

theorem TimetableFits.takeAmend : TimetableFits (s.takeAmend a bs).1 := by
  unfold State.takeAmend
  dsimp only
  split
  · exact h
  split
  case h_2 | h_3 => exact h
  next handle f _ fields =>
  split
  · exact h
  next e under =>
  split
  · exact h
  next suits =>
  split
  · exact h
  next below =>
  split
  · exact h
  next new =>
  have mem : e ∈ (s.session a).staging := List.mem_of_find?_eq_some under
  obtain rfl : e.handle = handle := by simpa using List.find?_some under
  refine h.setStaging ?_ (fun x amended => ?_) (.inl (List.length_map _).le)
  · refine (h.staged a).amend mem (EntryFields.legal_of_read fields) (by simpa using suits) fun x held target offset => ?_
    exact Option.some_inj.1 (entryAt_eq_none_iff.1 new x held target offset)
  · obtain ⟨y, held, rfl⟩ := List.mem_map.1 amended
    split
    · exact .inr below
    · exact .inl held

/-! ## PROPOSE (R138 to R140) -/

omit h in
theorem Settings.quota_le_quotaSum (st : Settings) (a : Agent) : st.quota.read a ≤ st.quotaSum :=
  List.single_le_sum (fun _ _ => Nat.zero_le _) _ (List.mem_map_of_mem (List.mem_finRange a))

omit h in
/-- A record that passes the rules of R136 leads to quotas of 128 at most. -/
theorem State.quotaSum_of_settingFault {r : List Byte} (passes : s.settingFault r = none) :
    (s.settings.updated (proposalOf r)).quotaSum ≤ 128 := by
  rw [State.settingFault_eq] at passes
  split at passes
  · cases passes
  obtain ⟨-, rules⟩ := Option.or_eq_none_iff.1 passes
  split at rules
  · cases rules
  split at rules
  · cases rules
  · next sum => exact not_lt.1 sum

/-- The checks of R136 and R139 let a proposal stand whose settings have room for the entries that are held. -/
theorem TimetableFits.allows_updated {r : List Byte} (passes : s.settingFault r = none)
    (offsets : s.offsetConflict (proposalOf r) = none) (quotas : s.quotaConflict (proposalOf r) = none) :
    (s.settings.updated (proposalOf r)).Allows s where
  offsets := by
    show ∀ a, s.EntriesBelow ((proposalOf r).period.getD s.settings.period) a
    cases proposed : (proposalOf r).period with
    | none => exact h.offsets
    | some k => exact (State.offsetConflict_eq_none_iff proposed).1 offsets
  counts a := by
    rw [Settings.updated_quota]
    cases proposed : (proposalOf r).quota.read a with
    | none => exact h.counts a
    | some k =>
      rw [State.quotaConflict_eq, Fin.find?_eq_none_iff] at quotas
      have within : ¬ (k < (s.session a).staging.length ∨ k < (s.session a).active.length) := fun exceeds =>
        Bool.eq_false_iff.1 (quotas a) ((s.exceedsQuota_iff _ a).2 ⟨k, proposed, exceeds⟩)
      rw [Option.getD_some]
      simpa only [not_or, not_lt] using within
  quota a := (Settings.quota_le_quotaSum _ a).trans (State.quotaSum_of_settingFault passes)

theorem TimetableFits.openSlot {b : OpenBallot} (allows : (s.settings.updated b.proposal).Allows s) :
    TimetableFits (s.openSlot b) := by
  obtain ⟨lists, before⟩ := (timetableFits_iff s).1 h
  refine (timetableFits_iff _).2 ⟨lists, ?_⟩
  rintro st (rfl | ⟨p, stands, rfl⟩)
  · obtain ⟨offsets, counts, quota⟩ := before _ (.inl rfl)
    exact ⟨offsets, counts, quota⟩
  · cases stands
    obtain ⟨offsets, counts, quota⟩ := allows
    exact ⟨offsets, counts, quota⟩

theorem TimetableFits.acceptProposal {b : OpenBallot} (allows : (s.settings.updated b.proposal).Allows s) :
    TimetableFits (s.acceptProposal b) := by
  have opened := h.openSlot allows
  unfold State.acceptProposal
  dsimp only
  split
  · exact opened.inherit ((State.inherits_passBallot _ rfl).trans (State.inherits_applyIfIdle _))
  · exact opened.inherit (State.inherits_notifyEach _ _ _ _)

theorem TimetableFits.takePropose : TimetableFits (s.takePropose a bs).1 := by
  unfold State.takePropose State.proposeOnEmpty
  dsimp only
  split
  · exact h
  split
  · exact h
  split
  · exact h
  next passes =>
  split
  · exact h
  next offsets =>
  split
  · exact h
  next quotas =>
  split
  · exact h
  · exact h.acceptProposal (h.allows_updated passes offsets quotas)

end

/-! ## The other commands -/

section

variable (s : State) (a : Agent) (bs : List Byte)

theorem State.inherits_setSession_notifyEach {q : Session} (lists : (s.session a).ListsFrom q) (n : Cycle)
    (k : NoticeKind) (who : Agent → Bool) : s.Inherits ((s.setSession a q).notifyEach n k who) :=
  (s.inherits_setSession lists).trans (State.inherits_notifyEach _ n k who)

theorem State.inherits_setSession_leaveBallot {q : Session} (lists : (s.session a).ListsFrom q) (n : Cycle)
    (b : Agent) : s.Inherits ((s.setSession a q).leaveBallot n b) :=
  (s.inherits_setSession lists).trans (State.inherits_leaveBallot _ n b)

theorem State.inherits_takeOpen : s.Inherits (s.takeOpen a bs).1 := by
  unfold State.takeOpen
  dsimp only
  split
  · exact .refl s
  · refine s.inherits_setSession_notifyEach a ?_ _ _ _
    exact .of_same rfl rfl

theorem State.inherits_takeRenew : s.Inherits (s.takeRenew a bs).1 := by
  unfold State.takeRenew
  dsimp only
  split
  · exact .refl s
  split
  · exact .refl s
  · exact s.inherits_setSession (.of_same rfl rfl)

theorem State.inherits_takeClose : s.Inherits (s.takeClose a bs).1 := by
  unfold State.takeClose
  split
  · exact s.inherits_tearDownNow a .closed rfl
  · unfold State.takeCloseAtBoundary
    dsimp only
    split
    · refine s.inherits_setSession_leaveBallot a ?_ _ a
      exact .of_same rfl rfl
    · exact s.inherits_tearDownNow a .closed rfl
  · exact .refl s

theorem State.inherits_takeReserve : s.Inherits (s.takeReserve a bs).1 := by
  unfold State.takeReserve
  dsimp only
  split
  · exact .refl s
  split
  · exact .refl s
  · exact .of_eq rfl rfl rfl

theorem State.inherits_takeRelease : s.Inherits (s.takeRelease a bs).1 := by
  unfold State.takeRelease
  dsimp only
  split
  · exact .refl s
  split
  · exact .refl s
  · exact .of_eq rfl rfl rfl

theorem State.inherits_setStaging {list : List Entry} (part : list.Sublist (s.session a).staging) :
    s.Inherits (s.setStaging a list) := s.inherits_setSession ⟨part, .inl (.refl _)⟩

theorem State.inherits_takeWithdraw : s.Inherits (s.takeWithdraw a bs).1 := by
  unfold State.takeWithdraw
  dsimp only
  split
  · exact .refl s
  split
  · exact .refl s
  split
  · exact .refl s
  · exact s.inherits_setStaging a List.filter_sublist

theorem State.inherits_takeClear : s.Inherits (s.takeClear a).1 := by
  unfold State.takeClear
  dsimp only
  split
  · exact .refl s
  · exact s.inherits_setStaging a (List.nil_sublist _)

theorem State.inherits_takeReadStaged : s.Inherits (s.takeReadStaged a bs).1 := by
  unfold State.takeReadStaged
  dsimp only
  split <;> exact .refl s

theorem State.inherits_takeReadActive : s.Inherits (s.takeReadActive bs).1 := by
  unfold State.takeReadActive
  split <;> exact .refl s

theorem State.inherits_exchange (n : Cycle) (way : Way) : s.Inherits (s.exchange n way a) := by
  refine s.inherits_setSession_notifyEach a ?_ _ _ _
  exact ⟨.refl _, .inr (.refl _)⟩

theorem State.inherits_takeCommit : s.Inherits (s.takeCommit a).1 := by
  unfold State.takeCommit
  dsimp only
  split
  · exact .refl s
  split
  · exact .refl s
  split
  · exact s.inherits_setSession (.of_same rfl rfl)
  · exact s.inherits_exchange a _ _

theorem State.inherits_takeAbandon : s.Inherits (s.takeAbandon a).1 := by
  unfold State.takeAbandon
  dsimp only
  split
  · exact .refl s
  · exact s.inherits_setSession (.of_same rfl rfl)

theorem State.inherits_takeForce : s.Inherits (s.takeForce a bs).1 := by
  unfold State.takeForce
  dsimp only
  repeat' split
  all_goals exact .of_eq rfl rfl rfl

theorem State.inherits_takeUnforce : s.Inherits (s.takeUnforce a bs).1 := by
  unfold State.takeUnforce
  dsimp only
  repeat' split
  all_goals exact .of_eq rfl rfl rfl

theorem State.inherits_takeSetSense : s.Inherits (s.takeSetSense a bs).1 := by
  unfold State.takeSetSense
  dsimp only
  repeat' split
  all_goals exact .of_eq rfl rfl rfl

theorem State.inherits_takeArming (act : Action) : s.Inherits (s.takeArming a bs act).1 := by
  unfold State.takeArming
  dsimp only
  split
  · exact .refl s
  split
  · exact .refl s
  · rw [State.serveSense_eq]
    exact .of_eq rfl rfl rfl

theorem State.inherits_takeReadCaptures : s.Inherits (s.takeReadCaptures a bs).1 := by
  unfold State.takeReadCaptures
  dsimp only
  split
  · exact .refl s
  · exact s.inherits_setSession (.of_same rfl rfl)

theorem State.inherits_takeReadNotices : s.Inherits (s.takeReadNotices a bs).1 := by
  unfold State.takeReadNotices
  dsimp only
  split
  · exact .refl s
  split
  · exact s.inherits_setSession (.of_same rfl rfl)
  · exact s.inherits_setSession (.of_same rfl rfl)

theorem State.inherits_takeVote : s.Inherits (s.takeVote a bs).1 := by
  unfold State.takeVote
  dsimp only
  split
  · exact .refl s
  split
  · exact .refl s
  next b named =>
  have stands := State.openNumbered_proposal named
  unfold State.voteOn State.acceptVote
  split
  · exact .refl s
  split
  · exact .refl s
  split
  · exact .trans (State.inherits_holdOrPass (b := { b with accepted := b.accepted.write a true }) _ stands)
      (State.inherits_applyIfIdle _)
  · exact s.inherits_failBallot _ _ _

theorem State.inherits_takeRetract : s.Inherits (s.takeRetract a bs).1 := by
  unfold State.takeRetract
  split
  · exact .refl s
  split
  · exact .refl s
  · exact s.inherits_failBallot _ _ _

end

/-! ## Every command, and every step -/

theorem TimetableFits.take {s : State} (h : TimetableFits s) (a : Agent) (bs : List Byte) (c : Command) :
    TimetableFits (s.take a bs c).1 := by
  cases c
  case stageEntry => exact h.takeStage bs
  case amendEntry => exact h.takeAmend bs
  case propose => exact h.takePropose bs
  case status | readSettings | readBallot => exact h
  case openSession => exact h.inherit (s.inherits_takeOpen a bs)
  case close => exact h.inherit (s.inherits_takeClose a bs)
  case renew => exact h.inherit (s.inherits_takeRenew a bs)
  case reserve => exact h.inherit (s.inherits_takeReserve a bs)
  case release => exact h.inherit (s.inherits_takeRelease a bs)
  case withdrawEntry => exact h.inherit (s.inherits_takeWithdraw a bs)
  case clearStaging => exact h.inherit (s.inherits_takeClear a)
  case readStaged => exact h.inherit (s.inherits_takeReadStaged a bs)
  case readActive => exact h.inherit (s.inherits_takeReadActive bs)
  case commit => exact h.inherit (s.inherits_takeCommit a)
  case abandon => exact h.inherit (s.inherits_takeAbandon a)
  case forceLine => exact h.inherit (s.inherits_takeForce a bs)
  case unforceLine => exact h.inherit (s.inherits_takeUnforce a bs)
  case setSense => exact h.inherit (s.inherits_takeSetSense a bs)
  case armSense => exact h.inherit (s.inherits_takeArming a bs .arm)
  case disarmSense => exact h.inherit (s.inherits_takeArming a bs .disarm)
  case readCaptures => exact h.inherit (s.inherits_takeReadCaptures a bs)
  case vote => exact h.inherit (s.inherits_takeVote a bs)
  case retract => exact h.inherit (s.inherits_takeRetract a bs)
  case readNotices => exact h.inherit (s.inherits_takeReadNotices a bs)

theorem stepInvariant_timetableFits : StepInvariant TimetableFits where
  blocks h same := by
    simp only [State.blocks, Blocks.mk.injEq] at same
    obtain ⟨settings, -, ballot, -, -, -, -, sessions⟩ := same
    exact h.inherit (.of_eq settings ballot sessions)
  reset := timetableFits_reset
  renewLease a h := h.inherit (State.inherits_renewLease _ a)
  take a bs c _ h := h.take a bs c
  resetSession a h := h.inherit (State.inherits_resetSession _ a)
  advanceCount h := h.inherit (State.inherits_advanceCount _)
  takeTriggerEdge h := h.inherit (State.inherits_takeTriggerEdge _)
  takeGateChange level h := h.inherit (State.inherits_takeGateChange _ level)
  takeEdge i e h := h.inherit (State.inherits_takeEdge _ i e)
  lowerLeases h := h.inherit (State.inherits_lowerLeases _)
  expireLease a h := h.inherit (State.inherits_expireLease _ a)
  expireDeadline h := h.inherit (State.inherits_expireDeadline _)
  runOutBudget h := h.inherit (State.inherits_runOutBudget _)
  endPulse d h := h.inherit (State.inherits_endPulse _ d)
  endGuard d h := h.inherit (State.inherits_endGuard _ d)
  sampleLines levels h := h.inherit (.of_eq rfl rfl rfl)
  tickDivider h := h.inherit (State.inherits_tickDivider _)
  tickLease h := h.inherit (State.inherits_tickLease _)

/-- Settles O7: STAGE_ENTRY, AMEND_ENTRY and PROPOSE keep the timetable fitting by their checks, and no other operation
brings new entries or new settings into view. -/
theorem stepKeepsTheTimetableFitting : Obligations.StepKeepsTheTimetableFitting := by
  unfold Obligations.StepKeepsTheTimetableFitting
  exact fun s t h stepped => stepInvariant_timetableFits.step h stepped

end Sys2Proof.Machine
end

section
/-! SUPPORT. COMMIT and ABANDON (chapter 5): validation and its first failure (R82), what each command does to a session
(R83 to R86, R91 to R93), and the statements on their frames (O32 to O34). -/

namespace Sys2Proof.Machine

/-! ## Validation (R82) -/

section

variable {s : State} {a : Agent} {list : List Entry} {e : Entry}

theorem State.validate_quota (above : (s.bound a).limit < list.length) :
    s.validate a list = some (.quota (s.bound a) list.length) := if_pos above

/-- Within the bound, the first entry that fails a check names the failure. -/
theorem State.validate_entry {before after : List Entry} {fault : EntryFault}
    (within : list.length ≤ (s.bound a).limit) (split : list = before ++ e :: after)
    (sound : ∀ x ∈ before, s.entryFault a list x = none) (fails : s.entryFault a list e = some fault) :
    s.validate a list = some fault := by
  rw [State.validate, if_neg (not_lt.2 within)]
  exact List.findSome?_eq_some_iff.2 ⟨before, e, after, split, fails, sound⟩

theorem State.entryFault_foreign (foreign : s.ownsTarget a e.target = false) :
    s.entryFault a list e = some (.lineNotOwned e.handle e.target) := by
  simp [State.entryFault, foreign]

variable (own : s.ownsTarget a e.target = true)
include own

theorem State.entryFault_beyond {limit : PeriodLimit} (beyond : s.refusingPeriod e.offset = some limit) :
    s.entryFault a list e = some (.offsetRange e.handle limit) := by
  simp [State.entryFault, own, beyond]

theorem State.entryFault_conflicting {other : Entry} (below : s.refusingPeriod e.offset = none)
    (conflict : s.conflicting list e = some other) :
    s.entryFault a list e = some (.interlock e.handle other.handle) := by
  simp [State.entryFault, own, below, conflict]

omit own

/-- On an interlocked pair, an assert-capable entry conflicts with the first one like it on the partner line. -/
theorem State.conflicting_drive {d : Drive} (target : e.target = .drive d) (capable : e.action.assertCapable = true)
    (linked : interlocked s.settings d = true) : s.conflicting list e =
      list.find? fun x => x.target == .drive (partner d) && x.offset == e.offset && x.action.assertCapable := by
  simp [State.conflicting, target, capable, linked]

end

/-! ## What COMMIT and ABANDON do to the session -/

/-- A notice for one agent, right after its record is written, is offered to that record (R154). -/
theorem State.setSession_notify {s : State} {a : Agent} {q : Session} (present : q.state.present = true) (n : Cycle)
    (k : NoticeKind) : (s.setSession a q).notify n k a = s.setSession a (q.offer ⟨k, n⟩) := by
  refine congrArg (fun b => { s with sessions := b }) (Bank.ext_read fun b => ?_)
  rw [Bank.read_build, State.session_setSession, Bank.read_write]
  by_cases same : b = a
  · simp [same, present]
  · simp [same, State.session]

/-- An exchange writes one record, and the session, which goes on, is offered COMMIT_APPLIED (R88, R91). -/
theorem State.exchange_present {s : State} {a : Agent} (present : (s.session a).state.present = true) (n : Cycle)
    (way : Way) : s.exchange n way a = s.setSession a
      (({ s.session a with active := (s.session a).staging, applied := some n, commit := .none }).offer
        ⟨.commitApplied (s.session a).staging.length way, n⟩) := by
  refine State.setSession_notify ?_ n _
  exact present

section

variable {s : State} {a : Agent}

section

variable {taken : Cycle} (pending : (s.session a).commit = .pending taken)
include pending

theorem State.takeCommit_pending : s.takeCommit a = (s, ⟨.commitPending, .takenCycle taken⟩) := by
  simp [State.takeCommit, pending]

theorem State.takeAbandon_withdraws : s.takeAbandon a = (s.setSession a { s.session a with commit := .none },
    ⟨.ok, .abandoned taken (s.session a).staging.length (s.session a).applied⟩) := by
  simp [State.takeAbandon, pending]

end

variable (idle : (s.session a).commit = .none)
include idle

theorem State.takeAbandon_idle :
    s.takeAbandon a = (s, ⟨.nothingPending, .appliedCycle (s.session a).applied⟩) := by
  simp [State.takeAbandon, idle]

theorem State.takeCommit_invalid {fault : EntryFault} (fails : s.validate a (s.session a).staging = some fault) :
    s.takeCommit a = (s, ⟨.invalidEntry, .entryFault fault⟩) := by
  simp [State.takeCommit, idle, fails]

variable (valid : s.validate a (s.session a).staging = none)
include valid

theorem State.takeCommit_waits (run : s.time.run.isRunning = true) : s.takeCommit a =
    (s.setSession a { s.session a with commit := .pending s.time.cycle },
      ⟨.pending, .committed s.time.cycle (s.session a).staging.length⟩) := by
  simp [State.takeCommit, idle, valid, run]

/-- The exchange leaves the commit state as it was, since none is PENDING (R86). -/
theorem State.takeCommit_applies (run : s.time.run.isRunning = false) (present : (s.session a).state.present = true) :
    s.takeCommit a =
      (s.setSession a (({ s.session a with
          active := (s.session a).staging
          applied := some s.time.cycle }).offer
        ⟨.commitApplied (s.session a).staging.length .immediate, s.time.cycle⟩),
      ⟨.applied, .committed s.time.cycle (s.session a).staging.length⟩) := by
  have exchanged : s.takeCommit a = (s.exchange s.time.cycle .immediate a,
      ⟨.applied, .committed s.time.cycle (s.session a).staging.length⟩) := by
    simp [State.takeCommit, idle, valid, run]
  rw [exchanged, State.exchange_present present]
  simp only [idle]

end

/-! ## The statements -/

section

variable {s : State} {p : Agent} {tag : Byte}

theorem exec_commit_open (accepts : s.Accepts p) (openState : (s.session p).state = .openState) {t : State} {r : Reply}
    (takes : ((s.settle p).renewLease p).takeCommit p = (t, r)) :
    exec (.commit p tag []) s = .next (t.respond p ⟨tag, 0x0D, r.status, r.data⟩) :=
  exec_answers_open (c := .commit) rfl accepts openState (List.mem_singleton.2 rfl) (by decide) takes

theorem exec_abandon_open (accepts : s.Accepts p) (openState : (s.session p).state = .openState) {t : State}
    {r : Reply} (takes : ((s.settle p).renewLease p).takeAbandon p = (t, r)) :
    exec (.abandon p tag []) s = .next (t.respond p ⟨tag, 0x0E, r.status, r.data⟩) :=
  exec_answers_open (c := .abandon) rfl accepts openState (List.mem_singleton.2 rfl) (by decide) takes

/-- Validation looks at nothing that a port or a lease holds. -/
theorem State.settled_validate (list : List Entry) :
    ((s.settle p).renewLease p).validate p list = s.validate p list := rfl

end

/-- Settles O32: a valid COMMIT goes on by the class of the run state, on the session as the renewed lease leaves it. -/
theorem commitWaitsOrIsAppliedByRunState : Obligations.CommitWaitsOrIsAppliedByRunState := by
  unfold Obligations.CommitWaitsOrIsAppliedByRunState
  intro p tag s accepts openState commit valid
  have idle : (((s.settle p).renewLease p).session p).commit = .none := State.settled_commit.trans commit
  have validated : ((s.settle p).renewLease p).validate p (((s.settle p).renewLease p).session p).staging = none := by
    rw [State.settled_validate, State.settled_staging, valid]
  refine ⟨fun run => ?_, fun run => ?_⟩
  · have running : s.time.run.isRunning = true := by rcases run with run | run <;> rw [run] <;> rfl
    rw [exec_commit_open accepts openState (State.takeCommit_waits idle validated running), State.settled_session_self,
      Session.renew_staging]
    rfl
  · have stopped : s.time.run.isRunning = false := by rcases run with run | run <;> rw [run] <;> rfl
    have present : (((s.settle p).renewLease p).session p).state.present = true := by
      rw [State.settled_session_self, Session.renew_state, openState]
      rfl
    rw [exec_commit_open accepts openState (State.takeCommit_applies idle validated stopped present),
      State.settled_session_self, Session.renew_staging]
    rfl

/-- Settles O33: a refusal comes before any change, and validation gives the first failure there is. -/
theorem commitRefusalsChangeNothing : Obligations.CommitRefusalsChangeNothing := by
  unfold Obligations.CommitRefusalsChangeNothing
  intro p tag s accepts openState
  refine ⟨fun c pending => ?_, fun fault commit fails => ?_, State.validate_quota,
    fun before after e within split sound => ?_⟩
  · exact exec_commit_open accepts openState (State.takeCommit_pending (State.settled_commit.trans pending))
  · have idle : (((s.settle p).renewLease p).session p).commit = .none := State.settled_commit.trans commit
    rw [← State.settled_staging, ← State.settled_validate] at fails
    exact exec_commit_open accepts openState (State.takeCommit_invalid idle fails)
  · have first {fault : EntryFault} := State.validate_entry (fault := fault) within split sound
    exact ⟨fun foreign => first (State.entryFault_foreign foreign),
      fun limit own beyond => first (State.entryFault_beyond own beyond),
      fun d y own below target capable linked found => first (State.entryFault_conflicting own below
        ((State.conflicting_drive target capable linked).trans found))⟩

/-- Settles O34: ABANDON writes the commit state alone, and only where a commit is PENDING. -/
theorem abandonWithdrawsThePendingCommit : Obligations.AbandonWithdrawsThePendingCommit := by
  unfold Obligations.AbandonWithdrawsThePendingCommit
  intro p tag s accepts openState
  refine ⟨fun c pending => ?_, fun commit => ?_⟩
  · rw [exec_abandon_open accepts openState (State.takeAbandon_withdraws (State.settled_commit.trans pending)),
      State.settled_staging, State.settled_applied, State.settled_session_self]
    rfl
  · rw [← State.settled_applied (p := p)]
    exact exec_abandon_open accepts openState (State.takeAbandon_idle (State.settled_commit.trans commit))

end Sys2Proof.Machine
end

section
/-! SUPPORT. Drive lines and their pairs under the interlock (R98, R99): what fits one line, what fits a pair, and the
operations of the drive engine that keep both. -/

namespace Sys2Proof.Machine

/-! ## What fits a line and a pair -/

/-- ASSERTED or in guard: what holds the partner back in an interlocked pair (R99). -/
def DriveLine.holds (l : DriveLine) : Bool := l.asserted || 0 < l.guardRemaining

theorem DriveLine.holds_eq_false_iff {l : DriveLine} : l.holds = false ↔ l.asserted = false ∧ l.guardRemaining = 0 := by
  simp [DriveLine.holds]

theorem blocked_eq (st : Settings) (lines : Bank DriveLine 16) (d : Drive) :
    blocked st lines d = (interlocked st d && (lines.read (partner d)).holds) := rfl

/-- The fields of one line are related as R98 says, in a pair that is interlocked or not. -/
structure DriveLine.Fits (linked : Bool) (l : DriveLine) : Prop where
  forcedAsserted : l.forcing = .forcedAsserted → l.asserted = true
  forcedDeasserted : l.forcing = .forcedDeasserted → l.asserted = false
  pulseEnd : ∀ k, l.pulseEnd = some k → l.asserted = true ∧ l.forcing = .free ∧ 1 ≤ k ∧ k ≤ 65535
  deferred : ∀ x, l.deferred = some x → l.asserted = false ∧ l.forcing = .free ∧ linked = true
    ∧ l.guardRemaining = 0 ∧ ∀ w, x.kind = .pulse w → 1 ≤ w ∧ w ≤ 65535
  guard : 0 < l.guardRemaining → l.asserted = false ∧ linked = true ∧ l.guardRemaining ≤ 1023

/-- Not both lines of an interlocked pair hold each other back, and not both have a deferred assert (R99). -/
structure PairFits (linked : Bool) (l m : DriveLine) : Prop where
  holds : linked = true → l.holds = true → m.holds = false
  deferred : l.deferred ≠ none → m.deferred = none

theorem PairFits.symm {linked : Bool} {l m : DriveLine} (h : PairFits linked l m) : PairFits linked m l where
  holds link held := by
    by_contra both
    rw [h.holds link (Bool.eq_true_of_not_eq_false both)] at held
    cases held
  deferred waits := by
    by_contra both
    exact waits (h.deferred both)

/-- Every line and every pair fits the settings. -/
structure DriveFits (st : Settings) (lines : Bank DriveLine 16) : Prop where
  line : ∀ d, (lines.read d).Fits (interlocked st d)
  pair : ∀ d, PairFits (interlocked st d) (lines.read d) (lines.read (partner d))

/-- Where the lines fit and no interlocked pair is ASSERTED on both lines, lines and pairs fit, and the other way
round. -/
theorem driveFits_iff (s : State) : DriveFits s.settings s.drive ↔ LinesFit s ∧
    ∀ d, interlocked s.settings d = true → ¬ ((s.line d).asserted = true ∧ (s.line (partner d)).asserted = true) := by
  constructor
  · intro h
    have line (d : Drive) : (s.line d).Fits (interlocked s.settings d) := h.line d
    have apart (d : Drive) (linked : interlocked s.settings d = true) (held : (s.line d).holds = true) :
        (s.line (partner d)).asserted = false ∧ (s.line (partner d)).guardRemaining = 0 :=
      DriveLine.holds_eq_false_iff.1 ((h.pair d).holds linked held)
    refine ⟨{
      forcedAsserted := fun d => (line d).forcedAsserted
      forcedDeasserted := fun d => (line d).forcedDeasserted
      pulseEnd := fun d => (line d).pulseEnd
      deferred := fun d => (line d).deferred
      guard := fun d => (line d).guard
      partnerClear := fun d linked high => (apart d linked (by simp [DriveLine.holds, high])).2
      oneGuard := fun d both => ?_
      oneDeferred := fun d both => both.2 ((h.pair d).deferred both.1) }, fun d linked both => ?_⟩
    · have clear := (apart d ((line d).guard both.1).2.1 (by simp [DriveLine.holds, both.1])).2
      exact absurd both.2 (by simp [clear])
    · have low := (apart d linked (by simp [DriveLine.holds, both.1])).1
      rw [low] at both
      cases both.2
  · rintro ⟨h, interlock⟩
    refine ⟨fun d => ⟨h.forcedAsserted d, h.forcedDeasserted d, h.pulseEnd d, h.deferred d, h.guard d⟩,
      fun d => ⟨fun linked held => ?_, fun waits => ?_⟩⟩
    · have back (high : (s.line (partner d)).asserted = true) : (s.line d).guardRemaining = 0 := by
        simpa using h.partnerClear (partner d) (by simpa using linked) high
      have clear (high : (s.line d).asserted = true) := h.partnerClear d linked high
      have safe := interlock d linked
      have guards := h.oneGuard d
      change (s.line d).holds = true at held
      show (s.line (partner d)).holds = false
      simp only [DriveLine.holds, Bool.or_eq_true, decide_eq_true_eq, Bool.or_eq_false_iff, decide_eq_false_iff_not,
        not_lt, Nat.le_zero] at held ⊢
      grind
    · by_contra both
      exact h.oneDeferred d ⟨waits, both⟩

/-! ## Lines that are written -/

/-- The line holds its partner back no more than before, and has no deferred assert that it had not. -/
structure DriveLine.Relaxes (l m : DriveLine) : Prop where
  holds : m.holds = true → l.holds = true
  deferred : m.deferred ≠ none → l.deferred ≠ none

theorem DriveLine.relaxes_idle (l : DriveLine) : l.Relaxes .idle :=
  ⟨nofun, fun waits => absurd rfl waits⟩

theorem DriveLine.Relaxes.trans {l m k : DriveLine} (h : l.Relaxes m) (g : m.Relaxes k) : l.Relaxes k :=
  ⟨fun held => h.holds (g.holds held), fun waits => h.deferred (g.deferred waits)⟩

theorem PairFits.relax {linked : Bool} {l l' m m' : DriveLine} (h : PairFits linked l m) (own : l.Relaxes l')
    (other : m.Relaxes m') : PairFits linked l' m' where
  holds link held := by
    by_contra both
    have free := h.holds link (own.holds held)
    rw [other.holds (Bool.eq_true_of_not_eq_false both)] at free
    cases free
  deferred waits := by
    by_contra both
    exact other.deferred both (h.deferred (own.deferred waits))

section

variable {st : Settings} {lines : Bank DriveLine 16} (h : DriveFits st lines)
include h

/-- All lines may be written at once, where each fits and is relaxed. -/
theorem DriveFits.relax {after : Bank DriveLine 16} (fits : ∀ d, (after.read d).Fits (interlocked st d))
    (relaxes : ∀ d, (lines.read d).Relaxes (after.read d)) : DriveFits st after :=
  ⟨fits, fun d => (h.pair d).relax (relaxes d) (relaxes (partner d))⟩

/-- A line that holds its partner back waits for nothing. -/
theorem DriveFits.deferred_of_holds {d : Drive} (held : (lines.read d).holds = true) :
    (lines.read d).deferred = none := by
  cases waits : (lines.read d).deferred with
  | none => rfl
  | some x =>
    obtain ⟨low, -, -, guard, -⟩ := (h.line d).deferred x waits
    rw [DriveLine.holds_eq_false_iff.2 ⟨low, guard⟩] at held
    cases held

/-- A blocked line does not hold its partner back. -/
theorem DriveFits.holds_of_blocked {d : Drive} (held : blocked st lines d = true) :
    interlocked st d = true ∧ (lines.read d).holds = false := by
  rw [blocked_eq, Bool.and_eq_true] at held
  exact ⟨held.1, by simpa using (h.pair (partner d)).holds (by simpa using held.1) held.2⟩

/-- One line may be written, if it comes to hold its partner back only where it is not blocked, and comes to wait only
where it is (R99, R102). -/
theorem DriveFits.write {d : Drive} {l : DriveLine} (fits : l.Fits (interlocked st d))
    (holds : l.holds = true → (lines.read d).holds = true ∨ blocked st lines d = false)
    (deferred : l.deferred ≠ none → (lines.read d).deferred ≠ none ∨ blocked st lines d = true) :
    DriveFits st (lines.write d l) := by
  have pair : PairFits (interlocked st d) l (lines.read (partner d)) := by
    constructor
    · intro linked held
      rcases holds held with before | free
      · exact (h.pair d).holds linked before
      · simpa [blocked_eq, linked] using free
    · intro waits
      rcases deferred waits with before | held
      · exact (h.pair d).deferred before
      · rw [blocked_eq, Bool.and_eq_true] at held
        exact h.deferred_of_holds held.2
  refine ⟨fun e => ?_, fun e => ?_⟩
  · rw [Bank.read_write]
    split
    · next same => rw [same]; exact fits
    · exact h.line e
  · by_cases own : e = d
    · rw [own, Bank.read_write_self, Bank.read_write_of_ne _ _ (partner_ne d)]
      exact pair
    · rw [Bank.read_write_of_ne _ _ own]
      by_cases other : partner e = d
      · have back : e = partner d := by rw [← other, partner_partner]
        rw [other, Bank.read_write_self, back, interlocked_partner]
        exact pair.symm
      · rw [Bank.read_write_of_ne _ _ other]
        exact h.pair e

/-- One line may be written, where it fits and is relaxed. -/
theorem DriveFits.writeRelaxed {d : Drive} {l : DriveLine} (fits : l.Fits (interlocked st d))
    (relaxes : (lines.read d).Relaxes l) : DriveFits st (lines.write d l) :=
  h.write fits (fun held => .inl (relaxes.holds held)) fun waits => .inl (relaxes.deferred waits)

end

/-! ## One line under the operations of the drive engine -/

theorem DriveLine.fits_idle (linked : Bool) : DriveLine.idle.Fits linked where
  forcedAsserted := nofun
  forcedDeasserted := nofun
  pulseEnd := nofun
  deferred := nofun
  guard := nofun

section

variable {linked : Bool} {l : DriveLine} (h : l.Fits linked)
include h

/-- A deferred assert cancelled or lapsed (R103, R104, R108). -/
theorem DriveLine.Fits.undefer : ({ l with deferred := none } : DriveLine).Fits linked :=
  { h with deferred := nofun }

omit h in
theorem DriveLine.relaxes_undefer : l.Relaxes { l with deferred := none } := ⟨id, fun waits => absurd rfl waits⟩

theorem DriveLine.Fits.unpulse : ({ l with pulseEnd := none } : DriveLine).Fits linked :=
  { h with pulseEnd := nofun }

/-- A guard may be lowered (R106). -/
theorem DriveLine.Fits.lowerGuard {k : Nat} (lower : k ≤ l.guardRemaining) :
    ({ l with guardRemaining := k } : DriveLine).Fits linked where
  forcedAsserted := h.forcedAsserted
  forcedDeasserted := h.forcedDeasserted
  pulseEnd := h.pulseEnd
  deferred x waits := by
    obtain ⟨low, free, link, guard, widths⟩ := h.deferred x waits
    exact ⟨low, free, link, Nat.le_zero.1 (guard ▸ lower), widths⟩
  guard above := by
    obtain ⟨low, link, bound⟩ := h.guard (above.trans_le lower)
    exact ⟨low, link, lower.trans bound⟩

omit h in
theorem DriveLine.relaxes_lowerGuard {k : Nat} (lower : k ≤ l.guardRemaining) :
    l.Relaxes { l with guardRemaining := k } := by
  refine ⟨fun held => ?_, id⟩
  simp only [DriveLine.holds, Bool.or_eq_true, decide_eq_true_eq] at held ⊢
  exact held.imp_right fun above => above.trans_le lower

/-- The end of a forcing (R112). -/
theorem DriveLine.Fits.unforced (forced : l.forcing ≠ .free) :
    ({ l with forcing := .free } : DriveLine).Fits linked where
  forcedAsserted := nofun
  forcedDeasserted := nofun
  pulseEnd k ends := absurd (h.pulseEnd k ends).2.1 forced
  deferred x waits := absurd (h.deferred x waits).2.1 forced
  guard := h.guard

omit h in
/-- A line that comes to stand DEASSERTED, with no pulse and no deferred assert. -/
theorem DriveLine.fits_low {f : Forcing} {g : Nat} (unforced : f ≠ .forcedAsserted)
    (guard : 0 < g → linked = true ∧ g ≤ 1023) : (⟨false, f, none, none, g⟩ : DriveLine).Fits linked where
  forcedAsserted forced := absurd forced unforced
  forcedDeasserted _ := rfl
  pulseEnd := nofun
  deferred := nofun
  guard above := ⟨rfl, guard above⟩

omit h in
/-- A line that comes to stand ASSERTED, with no deferred assert and no guard. -/
theorem DriveLine.fits_high {f : Forcing} {p : Option Nat} (unforced : f ≠ .forcedDeasserted)
    (pulse : ∀ k, p = some k → f = .free ∧ 1 ≤ k ∧ k ≤ 65535) : (⟨true, f, p, none, 0⟩ : DriveLine).Fits linked where
  forcedAsserted _ := rfl
  forcedDeasserted forced := absurd forced unforced
  pulseEnd k ends := ⟨rfl, pulse k ends⟩
  deferred := nofun
  guard := nofun

theorem DriveLine.Fits.deferred_of_asserted (high : l.asserted = true) : l.deferred = none := by
  by_contra waits
  obtain ⟨x, waits⟩ := Option.ne_none_iff_exists'.1 waits
  rw [(h.deferred x waits).1] at high
  cases high

theorem DriveLine.Fits.pulseEnd_of_deasserted (low : l.asserted = false) : l.pulseEnd = none := by
  by_contra ends
  obtain ⟨k, ends⟩ := Option.ne_none_iff_exists'.1 ends
  rw [(h.pulseEnd k ends).1] at low
  cases low

/-- The clearing deassert of a stop (R11, R115). -/
theorem DriveLine.Fits.stop : l.stop.Fits linked where
  forcedAsserted forced := by
    have forced : l.forcing = .forcedAsserted := forced
    simp [DriveLine.stop, forced, h.forcedAsserted forced]
  forcedDeasserted forced := by
    have forced : l.forcing = .forcedDeasserted := forced
    simp [DriveLine.stop, forced, h.forcedDeasserted forced]
  pulseEnd := nofun
  deferred := nofun
  guard := nofun

omit h in
theorem DriveLine.relaxes_stop : l.Relaxes l.stop := by
  refine ⟨fun held => ?_, fun waits => absurd rfl waits⟩
  have high : l.stop.asserted = true := by simpa [DriveLine.holds, DriveLine.stop] using held
  simp [DriveLine.holds, DriveLine.stop_asserted high]

end

section

variable {st : Settings} {d : Drive} {l : DriveLine} (h : l.Fits (interlocked st d)) (bound : guardOf st d ≤ 1023)

/-- The guard after a guarded deassert (R100). -/
theorem DriveLine.guardedDeassert_guardRemaining (st : Settings) (d : Drive) (l : DriveLine) :
    (l.guardedDeassert st d).guardRemaining =
      if l.asserted && interlocked st d then guardOf st d else l.guardRemaining := by
  cases high : l.asserted <;> simp [DriveLine.guardedDeassert, high]

theorem DriveLine.guardedDeassert_of_deasserted (low : l.asserted = false) : l.guardedDeassert st d = l :=
  if_neg (by rw [low]; decide)

include h bound in
theorem DriveLine.Fits.guardedDeassert_guard (above : 0 < (l.guardedDeassert st d).guardRemaining) :
    interlocked st d = true ∧ (l.guardedDeassert st d).guardRemaining ≤ 1023 := by
  rw [DriveLine.guardedDeassert_guardRemaining] at above ⊢
  split at above
  · next lowered =>
    rw [if_pos lowered]
    exact ⟨(Bool.and_eq_true_iff.1 lowered).2, bound⟩
  · next kept =>
    rw [if_neg kept]
    exact (h.guard above).2

include h bound in
/-- The guarded deassert of a line that is not forced ASSERTED (R100). -/
theorem DriveLine.Fits.guardedDeassert (unforced : l.forcing ≠ .forcedAsserted) :
    (l.guardedDeassert st d).Fits (interlocked st d) := by
  cases high : l.asserted with
  | false =>
    rw [DriveLine.guardedDeassert_of_deasserted high]
    exact h
  | true =>
    have guard := h.guardedDeassert_guard bound
    rw [DriveLine.guardedDeassert_of_asserted high] at guard ⊢
    rw [h.deferred_of_asserted high]
    exact DriveLine.fits_low unforced guard

theorem DriveLine.relaxes_guardedDeassert : l.Relaxes (l.guardedDeassert st d) := by
  refine ⟨fun held => ?_, fun waits => by simpa using waits⟩
  cases high : l.asserted with
  | false => rwa [DriveLine.guardedDeassert_of_deasserted high] at held
  | true => simp [DriveLine.holds, high]

/-! ## The countdown (R106, R107) -/

include h bound in
/-- A pulse ends on a line that is not forced. -/
theorem DriveLine.Fits.endPulse {k : Nat} (ends : l.pulseEnd = some k) :
    (l.endPulse st d).Fits (interlocked st d) := by
  have free := (h.pulseEnd k ends).2.1
  exact h.unpulse.guardedDeassert bound (by simp [free])

theorem DriveLine.relaxes_endPulse : l.Relaxes (l.endPulse st d) :=
  DriveLine.Relaxes.trans (m := { l with pulseEnd := none }) ⟨id, id⟩ DriveLine.relaxes_guardedDeassert

include h bound in
theorem DriveLine.Fits.lowerPulse : (l.lowerPulse st d).Fits (interlocked st d) := by
  unfold DriveLine.lowerPulse
  split
  · exact h
  · next k ends =>
    split
    · exact h.endPulse bound ends
    · next more =>
      obtain ⟨high, free, -, most⟩ := h.pulseEnd k ends
      refine { h with pulseEnd := fun j left => ?_ }
      cases left
      exact ⟨high, free, by omega, by omega⟩

theorem DriveLine.relaxes_lowerPulse : l.Relaxes (l.lowerPulse st d) := by
  unfold DriveLine.lowerPulse
  split
  · exact ⟨id, id⟩
  · split
    · exact DriveLine.relaxes_endPulse
    · exact ⟨id, id⟩

include h in
/-- A deferred assert taken: the line is asserted, with the pulse end that was kept (R107). -/
theorem DriveLine.Fits.takeDeferred {x : Deferred} (waits : l.deferred = some x) :
    (l.takeDeferred x).Fits (interlocked st d) := by
  obtain ⟨-, free, -, -, widths⟩ := h.deferred x waits
  refine DriveLine.fits_high (by simp [DriveLine.assert, free]) fun k ends => ⟨free, ?_⟩
  cases kind : x.kind with
  | assert => simp [kind, DeferredKind.width] at ends
  | pulse w =>
    obtain rfl : w = k := by simpa [kind, DeferredKind.width] using ends
    exact widths w kind

/-! ## Forcing (R111, R112) -/

include h bound in
theorem DriveLine.Fits.force (level : Bool) : (l.force st d level).Fits (interlocked st d) := by
  unfold DriveLine.force
  split
  · split
    · exact h
    · exact DriveLine.fits_high (by decide) (by nofun)
  · split
    · exact h
    · dsimp only
      rw [DriveLine.guardedDeassert_asserted]
      exact DriveLine.fits_low (by decide) (h.guardedDeassert_guard bound)

/-- Forcing holds the partner back only where the line is forced ASSERTED anew, and leaves nothing to wait for. -/
theorem DriveLine.force_holds {level : Bool} (held : (l.force st d level).holds = true) :
    l.holds = true ∨ (level = true ∧ l.forcing ≠ .forcedAsserted) := by
  unfold DriveLine.force at held
  split at held
  · next high =>
    split at held
    · exact .inl held
    · next anew => exact .inr ⟨high, anew⟩
  · split at held
    · exact .inl held
    · exact .inl ((DriveLine.relaxes_guardedDeassert (st := st) (d := d)).holds held)

theorem DriveLine.force_deferred {level : Bool} (waits : (l.force st d level).deferred ≠ none) :
    l.deferred ≠ none := by
  unfold DriveLine.force at waits
  split at waits
  · split at waits
    · exact waits
    · exact absurd rfl waits
  · split at waits
    · exact waits
    · exact absurd rfl waits

include h bound in
theorem DriveLine.Fits.unforce : (l.unforce st d).Fits (interlocked st d) := by
  unfold DriveLine.unforce
  split
  · next forced => exact (h.unforced (by simp [forced])).guardedDeassert bound (by simp)
  · next forced => exact h.unforced (by simp [forced])
  · exact h

theorem DriveLine.relaxes_unforce : l.Relaxes (l.unforce st d) := by
  unfold DriveLine.unforce
  split
  · exact DriveLine.Relaxes.trans (m := { l with forcing := .free }) ⟨id, id⟩ DriveLine.relaxes_guardedDeassert
  · exact ⟨id, id⟩
  · exact ⟨id, id⟩

/-! ## Due entries (R101 to R105) -/

/-- A TOGGLE acts as a DEASSERT or as an ASSERT (R104). -/
theorem DriveLine.dueToggle_cases (l : DriveLine) (st : Settings) (d : Drive) (blocks : Bool) (cycle : Cycle) :
    l.dueToggle st d blocks cycle = l.dueDeassert st d ∨ l.dueToggle st d blocks cycle = l.dueAssert blocks cycle := by
  cases high : l.asserted with
  | true => exact .inl (if_pos high)
  | false =>
    rw [DriveLine.dueToggle_of_deasserted high, DriveLine.dueDeassert_of_deasserted high]
    exact ite_eq_or_eq _ _ _

include h in
/-- A deferred assert is made on a DEASSERTED line of an interlocked pair that is not in guard (R102). -/
theorem DriveLine.Fits.defer (linked : interlocked st d = true) (idle : l.holds = false) (free : l.forcing = .free)
    (cycle : Cycle) {k : DeferredKind} (widths : ∀ w, k = .pulse w → 1 ≤ w ∧ w ≤ 65535) :
    (l.defer cycle k).Fits (interlocked st d) := by
  obtain ⟨low, guard⟩ := DriveLine.holds_eq_false_iff.1 idle
  refine { h with deferred := fun x waits => ⟨low, free, linked, guard, ?_⟩ }
  have kind : x.kind = k := by
    cases before : l.deferred <;> simp [DriveLine.defer, before] at waits <;> simp [← waits]
  rw [kind]
  exact widths

end

section

variable {st : Settings} {d : Drive} {l : DriveLine} (h : l.Fits (interlocked st d)) (bound : guardOf st d ≤ 1023)
  {blocks : Bool} (held : blocks = true → interlocked st d = true ∧ l.holds = false) (free : l.forcing = .free)
  (cycle : Cycle)

include h held free in
theorem DriveLine.Fits.dueAssert : (l.dueAssert blocks cycle).Fits (interlocked st d) := by
  unfold DriveLine.dueAssert
  split
  · exact h.unpulse
  next low =>
  split
  · next blocked =>
    obtain ⟨linked, idle⟩ := held blocked
    exact h.defer linked idle free cycle (by nofun)
  · have none := h.pulseEnd_of_deasserted (Bool.eq_false_iff.2 low)
    exact DriveLine.fits_high (by simp [DriveLine.assert, free]) (by simp [DriveLine.assert, none])

include h held free in
theorem DriveLine.Fits.duePulse {w : Nat} (width : 1 ≤ w ∧ w ≤ 65535) :
    (l.duePulse blocks cycle w).Fits (interlocked st d) := by
  unfold DriveLine.duePulse
  split
  · next high =>
    refine { h with pulseEnd := fun k ends => ?_ }
    cases ends
    exact ⟨high, free, width⟩
  split
  · next blocked =>
    obtain ⟨linked, idle⟩ := held blocked
    exact h.defer linked idle free cycle fun v same => by cases same; exact width
  · exact DriveLine.fits_high (by simp [DriveLine.assert, free]) fun k ends => by cases ends; exact ⟨free, width⟩

include h bound free in
theorem DriveLine.Fits.dueDeassert : (l.dueDeassert st d).Fits (interlocked st d) := by
  unfold DriveLine.dueDeassert
  split
  · exact h.guardedDeassert bound (by simp [free])
  · exact h.undefer

theorem DriveLine.relaxes_dueDeassert : l.Relaxes (l.dueDeassert st d) := by
  unfold DriveLine.dueDeassert
  split
  · exact DriveLine.relaxes_guardedDeassert
  · exact DriveLine.relaxes_undefer

include h bound held in
/-- A due entry leaves its line fitting (R101 to R105). -/
theorem DriveLine.Fits.serve {act : Action} (width : ∀ w, act = .pulse w → 1 ≤ w ∧ w ≤ 65535) :
    (l.serve st d blocks cycle act).Fits (interlocked st d) := by
  unfold DriveLine.serve
  split
  case isFalse => exact h
  next free =>
  cases act with
  | assert => exact h.dueAssert held free cycle
  | deassert => exact h.dueDeassert bound free
  | toggle =>
    show (l.dueToggle st d blocks cycle).Fits (interlocked st d)
    rcases l.dueToggle_cases st d blocks cycle with eq | eq <;> rw [eq]
    · exact h.dueDeassert bound free
    · exact h.dueAssert held free cycle
  | pulse w => exact h.duePulse held free cycle (width w rfl)
  | arm | disarm | mark _ => exact h

/-- The line holds its partner back only where it did, or where it was not blocked, and waits only where it did, or
where it was blocked. -/
structure DriveLine.Yields (blocks : Bool) (l m : DriveLine) : Prop where
  holds : m.holds = true → l.holds = true ∨ blocks = false
  deferred : m.deferred ≠ none → l.deferred ≠ none ∨ blocks = true

theorem DriveLine.Relaxes.yields {m : DriveLine} (h : l.Relaxes m) : l.Yields blocks m :=
  ⟨fun held => .inl (h.holds held), fun waits => .inl (h.deferred waits)⟩

theorem DriveLine.yields_dueAssert : l.Yields blocks (l.dueAssert blocks cycle) := by
  unfold DriveLine.dueAssert
  split
  · exact DriveLine.Relaxes.yields ⟨id, id⟩
  split
  · next blocked => exact ⟨.inl, fun _ => .inr blocked⟩
  · next unblocked => exact ⟨fun _ => .inr (Bool.eq_false_iff.2 unblocked), fun waits => absurd rfl waits⟩

theorem DriveLine.yields_duePulse (w : Nat) : l.Yields blocks (l.duePulse blocks cycle w) := by
  unfold DriveLine.duePulse
  split
  · exact DriveLine.Relaxes.yields ⟨id, id⟩
  split
  · next blocked => exact ⟨.inl, fun _ => .inr blocked⟩
  · next unblocked => exact ⟨fun _ => .inr (Bool.eq_false_iff.2 unblocked), fun waits => absurd rfl waits⟩

theorem DriveLine.yields_serve (act : Action) : l.Yields blocks (l.serve st d blocks cycle act) := by
  unfold DriveLine.serve
  split
  case isFalse => exact DriveLine.Relaxes.yields ⟨id, id⟩
  cases act with
  | assert => exact DriveLine.yields_dueAssert cycle
  | deassert => exact DriveLine.relaxes_dueDeassert.yields
  | toggle =>
    show l.Yields blocks (l.dueToggle st d blocks cycle)
    rcases l.dueToggle_cases st d blocks cycle with eq | eq <;> rw [eq]
    · exact DriveLine.relaxes_dueDeassert.yields
    · exact DriveLine.yields_dueAssert cycle
  | pulse w => exact DriveLine.yields_duePulse cycle w
  | arm | disarm | mark _ => exact DriveLine.Relaxes.yields ⟨id, id⟩

end

end Sys2Proof.Machine
end

section
/-! SUPPORT. The drive lines stay fit for the settings (O8): the due entries of a count, the countdown, boundaries,
applications and teardowns. -/

namespace Sys2Proof.Machine

/-! ## What the drive engine rests on -/

/-- What the fit of the drive lines speaks of. -/
def State.engine (s : State) : Settings × Bank DriveLine 16 := (s.settings, s.drive)

/-- Drive lines that fit the settings in force, in a state whose entries and settings, those of a standing proposal too,
keep them so. -/
structure LinesSound (s : State) : Prop where
  coherent : Coherent s
  timetable : TimetableFits s
  settings : ∀ st, s.InView st → st.Legal
  lines : DriveFits s.settings s.drive

theorem linesSound_iff (s : State) :
    LinesSound s ↔ Coherent s ∧ TimetableFits s ∧ (∀ st, s.InView st → st.Legal) ∧ LinesFit s := by
  constructor
  · rintro ⟨coherent, timetable, settings, lines⟩
    exact ⟨coherent, timetable, settings, ((driveFits_iff s).1 lines).1⟩
  · rintro ⟨coherent, timetable, settings, lines⟩
    exact ⟨coherent, timetable, settings, (driveFits_iff s).2 ⟨lines, coherent.interlock⟩⟩

theorem LegalTime.legal_of_inView {s : State} (h : LegalTime s) {st : Settings} (inView : s.InView st) : st.Legal := by
  rcases inView with rfl | ⟨p, stands, rfl⟩
  · exact h.settings
  · exact h.proposal p stands

/-! ## The drive lines of a state -/

section

variable {st : Settings} {lines : Bank DriveLine 16} (h : DriveFits st lines)
include h

/-- The lowering of all guards and pulse ends (R106). -/
theorem DriveFits.lower (bound : ∀ d, guardOf st d ≤ 1023) : DriveFits st (lowerPulses st (lowerGuards lines)) := by
  have guards : DriveFits st (lowerGuards lines) := by
    refine h.relax (fun d => ?_) fun d => ?_ <;> rw [lowerGuards, Bank.read_build]
    · exact (h.line d).lowerGuard (Nat.sub_le _ _)
    · exact DriveLine.relaxes_lowerGuard (Nat.sub_le _ _)
  refine guards.relax (fun d => ?_) fun d => ?_ <;> rw [lowerPulses, Bank.read_build]
  · exact (guards.line d).lowerPulse (bound d)
  · exact DriveLine.relaxes_lowerPulse

theorem DriveFits.stop : DriveFits st (Bank.build fun d => (lines.read d).stop) := by
  refine h.relax (fun d => ?_) fun d => ?_ <;> rw [Bank.read_build]
  · exact (h.line d).stop
  · exact DriveLine.relaxes_stop

/-- Lines may come to the unowned condition (R49). -/
theorem DriveFits.idle {after : Bank DriveLine 16} (idle : ∀ d, after.read d = lines.read d ∨ after.read d = .idle) :
    DriveFits st after := by
  refine h.relax (fun d => ?_) fun d => ?_ <;> rcases idle d with same | cleared
  · rw [same]; exact h.line d
  · rw [cleared]; exact DriveLine.fits_idle _
  · rw [same]; exact ⟨id, id⟩
  · rw [cleared]; exact DriveLine.relaxes_idle _

/-- The setup of a pair may change while both its lines are in the unowned condition (R52). -/
theorem DriveFits.updated {p : Proposal} (idle : ∀ d, p.pairSetup.read (pairOf d) ≠ none → lines.read d = .idle) :
    DriveFits (st.updated p) lines := by
  refine ⟨fun d => ?_, fun d => ?_⟩ <;> by_cases absent : p.pairSetup.read (pairOf d) = none
  · rw [interlocked_updated_of_none absent]
    exact h.line d
  · rw [idle d absent]
    exact DriveLine.fits_idle _
  · rw [interlocked_updated_of_none absent]
    exact h.pair d
  · rw [idle d absent]
    exact ⟨fun _ => nofun, fun waits => absurd rfl waits⟩

end

section

variable {s : State}

/-- What keeps settings, and the fit of the lines under them, keeps it when repeated. -/
theorem DriveFits.foldl {α : Type} {f : State → α → State} {xs : List α} (h : DriveFits s.settings s.drive)
    (settings : ∀ t x, (f t x).settings = t.settings)
    (keeps : ∀ t : State, t.settings = s.settings → DriveFits t.settings t.drive → ∀ x ∈ xs,
      DriveFits t.settings (f t x).drive) : DriveFits s.settings (xs.foldl f s).drive := by
  refine (List.foldlRecOn (motive := fun t : State => t.settings = s.settings ∧ DriveFits s.settings t.drive) _ _
    ⟨rfl, h⟩ fun t ⟨same, fits⟩ x mem => ⟨(settings t x).trans same, ?_⟩).2
  rw [← same] at fits ⊢
  exact keeps t same fits x mem

theorem DriveFits.serveDrive (h : DriveFits s.settings s.drive) (d : Drive) {act : Action}
    (bound : guardOf s.settings d ≤ 1023) (width : ∀ w, act = .pulse w → 1 ≤ w ∧ w ≤ 65535) :
    DriveFits s.settings (s.serveDrive d act).drive := by
  have yields := DriveLine.yields_serve (st := s.settings) (d := d) (l := s.line d)
    (blocks := blocked s.settings s.drive d) s.time.cycle act
  exact h.write ((h.line d).serve bound h.holds_of_blocked _ width) yields.holds yields.deferred

theorem State.serve_drive_other {x : Agent × Entry} (other : ∀ d, x.2.target ≠ .drive d) :
    (s.serve x).drive = s.drive := by
  cases target : x.2.target with
  | drive d => exact absurd target (other d)
  | sense i => rw [s.serve_sense target]; rfl
  | marker =>
    rw [s.serve_marker target, State.serveMark_frame]

theorem DriveFits.serve (h : DriveFits s.settings s.drive) (bound : ∀ d, guardOf s.settings d ≤ 1023)
    {x : Agent × Entry} (legal : x.2.Legal) : DriveFits s.settings (s.serve x).drive := by
  cases target : x.2.target with
  | drive d =>
    rw [s.serve_drive target]
    exact h.serveDrive d (bound d) fun w pulse => by
      obtain ⟨least, most⟩ := legal.width w pulse
      exact ⟨least, Nat.le_of_lt_succ most⟩
  | sense i | marker =>
    rw [State.serve_drive_other (by simp [target])]
    exact h

theorem DriveFits.takeDeferral (h : DriveFits s.settings s.drive) (n : Cycle) (d : Drive) :
    DriveFits s.settings (s.takeDeferral n d).drive := by
  unfold State.takeDeferral
  split
  · exact h
  · next x waits =>
    split
    · exact h
    · next free =>
      rw [State.notifyResolved_drive]
      exact h.write ((h.line d).takeDeferred waits) (fun _ => .inr (Bool.eq_false_iff.2 free))
        fun still => absurd rfl still

theorem DriveFits.countdown (h : DriveFits s.settings s.drive) (bound : ∀ d, guardOf s.settings d ≤ 1023)
    (n : Cycle) : DriveFits s.settings (s.countdown n).drive := by
  have lowered : DriveFits s.settings (lowerPulses s.settings (lowerGuards s.drive)) := h.lower bound
  exact DriveFits.foldl (s := { s with drive := lowerPulses s.settings (lowerGuards s.drive) }) lowered
    (fun t d => (t.served_takeDeferral n d).settings) fun t _ fits d _ => fits.takeDeferral n d

theorem DriveFits.lapseDeferral (h : DriveFits s.settings s.drive) (n : Cycle) (d : Drive) :
    DriveFits s.settings (s.lapseDeferral n d).drive := by
  unfold State.lapseDeferral
  split
  · exact h
  · split
    · exact h
    · rw [State.notifyResolved_drive]
      exact h.writeRelaxed (h.line d).undefer DriveLine.relaxes_undefer

theorem DriveFits.lapseDeferrals (h : DriveFits s.settings s.drive) (n : Cycle) :
    DriveFits s.settings (s.lapseDeferrals n).drive :=
  h.foldl (fun t d => (t.served_lapseDeferral n d).settings) fun _ _ fits d _ => fits.lapseDeferral n d

end

/-! ## The time base (R3, R10, R11) -/

section

variable {s : State} (h : LinesSound s)
include h

/-- What a state that comes after needs: it is coherent, brings nothing new into view, and its lines fit. -/
theorem LinesSound.next {t : State} (coherent : Coherent t) (inherits : s.Inherits t)
    (lines : DriveFits t.settings t.drive) : LinesSound t :=
  ⟨coherent, h.timetable.inherit inherits, fun st inView => h.settings st (inherits.inView st inView), lines⟩

/-- The same, where settings and drive lines stay. -/
theorem LinesSound.of_engine {t : State} (coherent : Coherent t) (inherits : s.Inherits t)
    (engine : t.engine = s.engine) : LinesSound t := by
  obtain ⟨settings, drive⟩ := Prod.mk.inj engine
  exact h.next coherent inherits (by rw [settings, drive]; exact h.lines)

theorem LinesSound.bound (d : Drive) : guardOf s.settings d ≤ 1023 := (h.settings _ (.inl rfl)).guard _

theorem LinesSound.setTime (t : TimeBase) : LinesSound (s.setTime t) :=
  h.of_engine (h.coherent.setTime t) (.of_eq rfl rfl rfl) rfl

theorem LinesSound.notifyEach (n : Cycle) (k : NoticeKind) (who : Agent → Bool) : LinesSound (s.notifyEach n k who) :=
  h.of_engine (h.coherent.notifyEach n k who) (s.inherits_notifyEach n k who) rfl

theorem LinesSound.emptySlot : LinesSound s.emptySlot := h.of_engine h.coherent.emptySlot s.inherits_emptySlot rfl

theorem LinesSound.countdown (n : Cycle) : LinesSound (s.countdown n) := by
  refine h.next (h.coherent.countdown n) (.of_served (s.served_countdown n)) ?_
  rw [(s.served_countdown n).settings]
  exact h.lines.countdown h.bound n

theorem LinesSound.lapseDeferrals (n : Cycle) : LinesSound (s.lapseDeferrals n) := by
  refine h.next (h.coherent.lapseDeferrals n) (.of_served (s.served_lapseDeferrals n)) ?_
  rw [(s.served_lapseDeferrals n).settings]
  exact h.lines.lapseDeferrals n

/-- The entries due at a count are active entries, which are legal. -/
theorem LinesSound.reach (count : Nat) : LinesSound (s.reach count) := by
  refine h.next (h.coherent.reach count) (s.inherits_reach count) ?_
  rw [(s.served_reach count).settings, State.reach_eq]
  refine DriveFits.foldl (s := s.atCount count) h.lines (fun t x => (t.served_serve x).settings)
    fun t same fits x due => fits.serve (fun d => ?_) ?_
  · rw [same]
    exact h.bound d
  · exact (h.timetable.active x.1).legal x.2 (State.active_of_mem_dueEntries due)

theorem LinesSound.beginCycle : LinesSound s.beginCycle := by
  have new : LinesSound s.newCycle := h.of_engine (h.coherent.of_holdings rfl) (.of_eq rfl rfl rfl) rfl
  rcases s.beginCycle_cases with ⟨-, eq⟩ | ⟨-, eq⟩ <;> rw [eq]
  · exact new.reach 0
  · exact new

theorem LinesSound.enterIdle (run : RunState) : LinesSound (s.enterIdle run) :=
  h.next (h.coherent.enterIdle run) (.of_eq rfl rfl rfl) h.lines.stop

theorem LinesSound.examineBudget : LinesSound s.examineBudget := by
  rcases s.examineBudget_cases with ⟨-, eq⟩ | ⟨-, eq⟩ | ⟨-, eq⟩ <;> rw [eq]
  · exact h
  · exact h.setTime _
  · exact (h.setTime _).enterIdle _

/-! ## The application of a ballot (R149) -/

/-- Settings applied from a standing proposal: the lines of a pair whose setup changes are in the unowned condition. -/
theorem LinesSound.applySettings {p : Proposal} (stands : s.ballot.slot.proposal? = some p) :
    LinesSound (s.applySettings p) := by
  have updated : DriveFits (s.settings.updated p) s.drive := h.lines.updated fun d present =>
    h.coherent.unownedIdle d (h.coherent.locked stands d (Proposal.locks_of_pairSetup present).1)
  refine h.next (h.coherent.applySettings stands) (State.inherits_applySettings stands) ?_
  rw [State.applySettings_settings]
  rcases s.applySettings_cases p with ⟨-, -, -, -, drive⟩ | ⟨-, -, -, -, -, drive⟩ <;> rw [drive]
  · exact updated
  · exact updated.stop

theorem LinesSound.applyIfIdle : LinesSound s.applyIfIdle := by
  unfold State.applyIfIdle
  split
  · next b p slot =>
    split
    · exact h
    · have applied : LinesSound (s.applySettings p) := h.applySettings (by rw [slot]; rfl)
      have begun : LinesSound ((s.applySettings p).beginIfStarted s.time.run) := by
        unfold State.beginIfStarted
        split
        · exact applied.beginCycle
        · exact applied
      have told :
          LinesSound ((((s.applySettings p).beginIfStarted s.time.run).emptySlot).notifyIfChanged s.time.run) := by
        unfold State.notifyIfChanged
        split
        · exact begun.emptySlot
        · exact begun.emptySlot.notifyEach _ _ _
      exact told.notifyEach _ _ _
  · exact h
  · exact h

/-! ## Ballots that close, and teardowns (R32, R146, R147) -/

theorem LinesSound.failBallot (n : Cycle) (b : OpenBallot) (reason : FailReason) :
    LinesSound (s.failBallot n b reason) :=
  h.of_engine (h.coherent.failBallot n b reason) (s.inherits_failBallot n b reason) rfl

theorem LinesSound.holdOrPass (n : Cycle) {b : OpenBallot} (stands : s.ballot.slot.proposal? = some b.proposal) :
    LinesSound (s.holdOrPass n b) := by
  refine h.of_engine (h.coherent.holdOrPass n stands) (State.inherits_holdOrPass n stands) ?_
  unfold State.holdOrPass
  split <;> rfl

omit h in
theorem State.leaveBallot_engine (s : State) (n : Cycle) (a : Agent) : (s.leaveBallot n a).engine = s.engine := by
  obtain ⟨k, who, b, left, -⟩ := s.leaveBallot_cases n a
  rw [left]
  rfl

theorem LinesSound.expireDeadline : LinesSound s.expireDeadline := by
  unfold State.expireDeadline
  split
  · split
    · exact h.failBallot _ _ _
    · exact h
  · exact h
  · exact h

theorem LinesSound.tearDown (n : Cycle) (a : Agent) {after : SessionState} (reason : LeaveReason)
    (departs : after.present = false) : LinesSound (s.tearDown n a after reason) := by
  have torn := s.tornDown_tearDown n a reason departs
  refine h.next (h.coherent.tearDown n a reason departs) (.of_tornDown torn) ?_
  rw [torn.settings]
  exact h.lines.idle torn.lines

theorem LinesSound.tearDownNow (a : Agent) {after : SessionState} (reason : LeaveReason)
    (departs : after.present = false) : LinesSound (s.tearDownNow a after reason) :=
  (h.tearDown _ a reason departs).applyIfIdle

theorem LinesSound.expireLease (a : Agent) : LinesSound (s.expireLease a) := by
  unfold State.expireLease
  split
  · exact h.tearDownNow a .expired rfl
  · exact h

theorem LinesSound.resetSession (a : Agent) : LinesSound (s.resetSession a) := by
  refine h.next (h.coherent.resetSession a) (s.inherits_resetSession a) ?_
  unfold State.resetSession
  split
  · exact (h.tearDownNow a .portReset rfl).lines
  · exact h.lines

/-! ## Boundaries (R13, R14) -/

theorem LinesSound.exchangeAll (n : Cycle) : LinesSound (s.exchangeAll n) :=
  h.of_engine (h.coherent.exchangeAll n) (s.inherits_exchangeAll n) (by simp [State.engine])

theorem LinesSound.applyAtBoundary (n : Cycle) : LinesSound (s.applyAtBoundary n) := by
  unfold State.applyAtBoundary
  split
  · next slot => exact (h.applySettings (by rw [slot]; rfl)).emptySlot.notifyEach _ _ _
  · exact h
  · exact h

theorem LinesSound.tearDownClosing (n : Cycle) : LinesSound (s.tearDownClosing n) := by
  have torn := s.tornDown_tearDownClosing n
  refine h.next (h.coherent.tearDownClosing n) (.of_tornDown torn) ?_
  rw [torn.settings]
  exact h.lines.idle torn.lines

theorem LinesSound.completeBoundary : LinesSound s.completeBoundary := by
  cases run : s.time.run.isRunning
  · rw [s.completeBoundary_idle run]
    exact h
  · rw [s.completeBoundary_running run]
    exact LinesSound.beginCycle (s := s.resumed) (h.setTime _)

theorem LinesSound.notifyBoundary (n : Cycle) (r1 r3 : RunState) : LinesSound (s.notifyBoundary n r1 r3) := by
  unfold State.notifyBoundary
  split
  · exact h.notifyEach _ _ _
  · split
    · exact h
    · exact h.notifyEach _ _ _

theorem LinesSound.boundary (normal : Bool) : LinesSound (s.boundary normal) := by
  have counted : LinesSound (s.lastCount normal) := by
    unfold State.lastCount
    split
    · exact h.countdown _
    · exact h
  have applied : LinesSound (s.ballotApplied normal) := (counted.examineBudget.exchangeAll _).applyAtBoundary _
  rw [State.boundary_eq]
  exact ((applied.tearDownClosing _).lapseDeferrals _).completeBoundary.notifyBoundary _ _ _

/-! ## Count advances, trigger edges, gate changes and capture edges (R1, R7, R9, R123) -/

theorem LinesSound.advanceCount : LinesSound s.advanceCount := by
  have counted : LinesSound s.counted := ((h.setTime _).countdown _).setTime _
  rw [State.advanceCount_eq]
  split
  · split
    · exact counted.reach _
    · exact (h.setTime _).boundary true
  · exact h

theorem LinesSound.useTrigger : LinesSound s.useTrigger := by
  by_cases start : s.time.run = .armed ∧ s.settings.mode = .triggered
  · rw [s.useTrigger_start start.1 start.2, State.triggerStart_eq]
    exact LinesSound.notifyEach (LinesSound.beginCycle (s := s.triggered) (h.setTime _)) _ _ _
  · by_cases restart : s.time.run = .running ∧ s.settings.mode = .restart
    · rw [s.useTrigger_restart restart.1 restart.2]
      exact h.boundary false
    · rw [s.useTrigger_other start restart]
      exact h

/-- A line shown and a path set concern no drive line. -/
theorem LinesSound.showLevel (i : Sense) (l : Level) (t : TimeBase) : LinesSound ((s.showLevel i l).setTime t) :=
  h.of_engine (h.coherent.of_holdings rfl) (.of_eq rfl rfl rfl) rfl

theorem LinesSound.takeTriggerEdge : LinesSound s.takeTriggerEdge := by
  unfold State.takeTriggerEdge
  split
  · exact h
  · exact (h.showLevel _ _ _).useTrigger

theorem LinesSound.useGate (level : Level) : LinesSound (s.useGate level) := by
  by_cases acts : s.settings.mode = .gated
      ∧ ((s.time.run = .running ∧ level = .low) ∨ (s.time.run = .held ∧ level = .high))
  · obtain ⟨mode, ⟨run, rfl⟩ | ⟨run, rfl⟩⟩ := acts
    · rw [s.useGate_hold mode run]
      exact h.of_engine (h.coherent.of_holdings rfl) (.of_eq rfl rfl rfl) rfl
    · rw [s.useGate_resume mode run]
      split
      · exact h.setTime _
      · exact (h.setTime _).reach 0
  · rw [s.useGate_other level acts]
    exact h

theorem LinesSound.takeGateChange (level : Level) : LinesSound (s.takeGateChange level) := by
  unfold State.takeGateChange
  split
  · exact h
  · exact (h.showLevel _ _ _).useGate level

omit h in
theorem State.takeEdge_engine (s : State) (i : Sense) (e : Edge) : (s.takeEdge i e).engine = s.engine := by
  have made (t : State) (a : Agent) (k : RecordKind) (count : Nat) : (t.makeRecord a k count).engine = t.engine := by
    rw [t.makeRecord_frame]
    rfl
  unfold State.takeEdge
  dsimp only
  split
  · rfl
  split
  · split
    · rfl
    · exact made _ _ _ _
  · rfl

theorem LinesSound.takeEdge (i : Sense) (e : Edge) : LinesSound (s.takeEdge i e) :=
  h.of_engine (h.coherent.takeEdge i e) (s.inherits_takeEdge i e) (s.takeEdge_engine i e)

theorem LinesSound.runOutBudget : LinesSound s.runOutBudget := by
  unfold State.runOutBudget
  split
  · split
    · exact (h.setTime _).boundary true
    · split
      · exact h.boundary false
      · exact h
  · exact h

theorem LinesSound.endPulse (d : Drive) : LinesSound (s.endPulse d) := by
  refine h.next (h.coherent.endPulse d) (s.inherits_endPulse d) ?_
  unfold State.endPulse
  split
  · next ends => exact h.lines.writeRelaxed ((h.lines.line d).endPulse (h.bound d) ends.2) DriveLine.relaxes_endPulse
  · exact h.lines

theorem LinesSound.endGuard (d : Drive) : LinesSound (s.endGuard d) := by
  refine h.next (h.coherent.endGuard d) (s.inherits_endGuard d) ?_
  unfold State.endGuard
  split
  · exact h.lines.writeRelaxed ((h.lines.line d).lowerGuard (Nat.zero_le _))
      (DriveLine.relaxes_lowerGuard (Nat.zero_le _))
  · exact h.lines

theorem LinesSound.tickDivider : LinesSound s.tickDivider := by
  refine h.of_engine h.coherent.tickDivider s.inherits_tickDivider ?_
  unfold State.tickDivider
  split
  · split <;> rfl
  · rfl

theorem LinesSound.tickLease : LinesSound s.tickLease := by
  refine h.of_engine h.coherent.tickLease s.inherits_tickLease ?_
  unfold State.tickLease
  split <;> rfl

end

end Sys2Proof.Machine
end

section
/-! SUPPORT. The drive lines stay fit under the command of every owning block, and with that under every step (O8). -/

namespace Sys2Proof.Machine

/-! ## Commands that leave the drive lines alone -/

section

variable (s : State) (a : Agent) (bs : List Byte)

theorem State.takeOpen_drive : (s.takeOpen a bs).1.drive = s.drive := by
  unfold State.takeOpen
  dsimp only
  split <;> rfl

theorem State.takeRenew_drive : (s.takeRenew a bs).1.drive = s.drive := by
  unfold State.takeRenew
  dsimp only
  split
  · rfl
  · split <;> rfl

theorem State.takeReserve_drive : (s.takeReserve a bs).1.drive = s.drive := by
  unfold State.takeReserve
  dsimp only
  split
  · rfl
  · split <;> rfl

theorem State.takeStage_drive : (s.takeStage a bs).1.drive = s.drive := by
  unfold State.takeStage
  dsimp only
  repeat' split
  all_goals rfl

theorem State.takeAmend_drive : (s.takeAmend a bs).1.drive = s.drive := by
  unfold State.takeAmend
  dsimp only
  repeat' split
  all_goals rfl

theorem State.takeWithdraw_drive : (s.takeWithdraw a bs).1.drive = s.drive := by
  unfold State.takeWithdraw
  dsimp only
  repeat' split
  all_goals rfl

theorem State.takeClear_drive : (s.takeClear a).1.drive = s.drive := by
  unfold State.takeClear
  dsimp only
  split <;> rfl

theorem State.takeReadStaged_drive : (s.takeReadStaged a bs).1.drive = s.drive := by
  unfold State.takeReadStaged
  dsimp only
  split <;> rfl

theorem State.takeReadActive_drive : (s.takeReadActive bs).1.drive = s.drive := by
  unfold State.takeReadActive
  split <;> rfl

theorem State.takeCommit_drive : (s.takeCommit a).1.drive = s.drive := by
  unfold State.takeCommit
  dsimp only
  repeat' split
  all_goals rfl

theorem State.takeAbandon_drive : (s.takeAbandon a).1.drive = s.drive := by
  unfold State.takeAbandon
  dsimp only
  split <;> rfl

theorem State.takeSetSense_drive : (s.takeSetSense a bs).1.drive = s.drive := by
  unfold State.takeSetSense
  dsimp only
  split
  · rfl
  · split <;> rfl

theorem State.takeArming_drive (act : Action) : (s.takeArming a bs act).1.drive = s.drive := by
  unfold State.takeArming
  dsimp only
  split
  · rfl
  split
  · rfl
  · rw [State.serveSense_eq]
    rfl

theorem State.takeReadCaptures_drive : (s.takeReadCaptures a bs).1.drive = s.drive := by
  unfold State.takeReadCaptures
  dsimp only
  split <;> rfl

theorem State.takeReadNotices_drive : (s.takeReadNotices a bs).1.drive = s.drive := by
  unfold State.takeReadNotices
  dsimp only
  split
  · rfl
  · split <;> rfl

theorem State.takeRetract_drive : (s.takeRetract a bs).1.drive = s.drive := by
  unfold State.takeRetract
  split
  · rfl
  · split <;> rfl

end

/-! ## Every command -/

theorem State.SameClock.inView {s t : State} (h : s.SameClock t) {st : Settings} (inView : t.InView st) :
    s.InView st := by
  rcases inView with rfl | ⟨p, stands, rfl⟩
  · exact .inl h.settings
  · exact .inr ⟨p, h.proposal p stands, by rw [h.settings]⟩

section

variable {s : State} (h : LinesSound s)
include h

/-- A state that is coherent and whose timetable fits, with the settings and the lines as they were. -/
theorem LinesSound.of_sameClock {t : State} (coherent : Coherent t) (timetable : TimetableFits t)
    (clock : s.SameClock t) (drive : t.drive = s.drive) : LinesSound t :=
  ⟨coherent, timetable, fun st inView => h.settings st (clock.inView inView),
    by rw [drive, clock.settings]; exact h.lines⟩

theorem LinesSound.takeClose (a : Agent) (bs : List Byte) : LinesSound (s.takeClose a bs).1 := by
  refine h.next (h.coherent.takeClose bs) (s.inherits_takeClose a bs) ?_
  unfold State.takeClose
  split
  · exact (h.tearDownNow a .closed rfl).lines
  · unfold State.takeCloseAtBoundary
    dsimp only
    split
    · obtain ⟨settings, drive⟩ := Prod.mk.inj (State.leaveBallot_engine
        (s.setSession a { s.session a with state := .closing, commit := .none }) s.time.cycle a)
      rw [settings, drive]
      exact h.lines
    · exact (h.tearDownNow a .closed rfl).lines
  · exact h.lines

theorem LinesSound.takeRelease (a : Agent) (bs : List Byte) : LinesSound (s.takeRelease a bs).1 := by
  refine h.next (h.coherent.takeRelease bs) (s.inherits_takeRelease a bs) ?_
  unfold State.takeRelease
  dsimp only
  split
  · exact h.lines
  split
  · exact h.lines
  · refine h.lines.idle fun d => ?_
    rw [State.releaseLines, Bank.read_build]
    split
    · exact .inr rfl
    · exact .inl rfl

/-- A line that is forced ASSERTED anew is not blocked (R111). -/
theorem LinesSound.takeForce (a : Agent) (bs : List Byte) : LinesSound (s.takeForce a bs).1 := by
  refine h.next (h.coherent.takeForce bs) (s.inherits_takeForce a bs) ?_
  unfold State.takeForce
  dsimp only
  split
  case h_2 | h_3 => exact h.lines
  next d level _ _ =>
  split
  · exact h.lines
  split
  · exact h.lines
  next free =>
  refine h.lines.write ((h.lines.line d).force (h.bound d) level) (fun held => ?_)
    fun waits => .inl (DriveLine.force_deferred waits)
  refine (DriveLine.force_holds held).imp_right fun ⟨high, anew⟩ => ?_
  simpa [high, anew] using free

theorem LinesSound.takeUnforce (a : Agent) (bs : List Byte) : LinesSound (s.takeUnforce a bs).1 := by
  refine h.next (h.coherent.takeUnforce bs) (s.inherits_takeUnforce a bs) ?_
  unfold State.takeUnforce
  dsimp only
  split
  · exact h.lines
  next d _ =>
  split
  · exact h.lines
  · exact h.lines.writeRelaxed ((h.lines.line d).unforce (h.bound d)) DriveLine.relaxes_unforce

/-- A proposal that locks no owned line, and leads to legal settings with room for the entries that are held, may
stand. -/
theorem LinesSound.acceptProposal {b : OpenBallot}
    (unowned : ∀ d, b.proposal.lockSet.read d = true → s.driveOwner.read d = none)
    (allows : (s.settings.updated b.proposal).Allows s) (legal : (s.settings.updated b.proposal).Legal) :
    LinesSound (s.acceptProposal b) := by
  have opened : LinesSound (s.openSlot b) := by
    refine ⟨h.coherent.withBallot fun p stands => ?_, h.timetable.openSlot allows, ?_, h.lines⟩
    · cases stands
      exact unowned
    · rintro st (rfl | ⟨p, stands, rfl⟩)
      · exact h.settings _ (.inl rfl)
      · cases stands
        exact legal
  unfold State.acceptProposal
  dsimp only
  split
  · exact LinesSound.applyIfIdle
      (opened.of_engine (opened.coherent.passBallot _ rfl) (State.inherits_passBallot _ rfl) rfl)
  · exact opened.notifyEach _ _ _

theorem LinesSound.takePropose (a : Agent) (bs : List Byte) : LinesSound (s.takePropose a bs).1 := by
  unfold State.takePropose State.proposeOnEmpty
  dsimp only
  split
  · exact h
  split
  · exact h
  split
  · exact h
  next passes =>
  split
  · exact h
  next offsets =>
  split
  · exact h
  next quotas =>
  split
  · exact h
  next unreserved =>
  refine h.acceptProposal (fun d locks => ?_) (h.timetable.allows_updated passes offsets quotas)
    ((h.settings _ (.inl rfl)).updated_of_settingFault passes)
  have locks : (proposalOf (bs.drop 1)).lockSet.read d = true := locks
  rw [Bool.not_eq_true', Bool.not_eq_false, setIsEmpty_iff] at unreserved
  have free := unreserved d
  rw [State.reservedLines, setFilter_read, locks, Bool.true_and] at free
  simpa using free

theorem LinesSound.takeVote (a : Agent) (bs : List Byte) : LinesSound (s.takeVote a bs).1 := by
  unfold State.takeVote
  dsimp only
  split
  · exact h
  split
  · exact h
  next b named =>
  have stands := State.openNumbered_proposal named
  unfold State.voteOn State.acceptVote
  split
  · exact h
  split
  · exact h
  split
  · exact (h.holdOrPass _ (b := { b with accepted := b.accepted.write a true }) stands).applyIfIdle
  · exact h.failBallot _ _ _

theorem LinesSound.take (a : Agent) (bs : List Byte) {c : Command}
    (admitted : (c.row bs).refusal (s.session a).state = none) : LinesSound (s.take a bs c).1 := by
  have kept (clock : s.SameClock (s.take a bs c).1) (drive : (s.take a bs c).1.drive = s.drive) :
      LinesSound (s.take a bs c).1 :=
    h.of_sameClock (h.coherent.take bs admitted) (h.timetable.take a bs c) clock drive
  cases c
  case close => exact h.takeClose a bs
  case release => exact h.takeRelease a bs
  case forceLine => exact h.takeForce a bs
  case unforceLine => exact h.takeUnforce a bs
  case propose => exact h.takePropose a bs
  case vote => exact h.takeVote a bs
  case status | readSettings | readBallot => exact h
  case openSession => exact kept (s.sameClock_takeOpen a bs) (s.takeOpen_drive a bs)
  case renew => exact kept (s.sameClock_takeRenew a bs) (s.takeRenew_drive a bs)
  case reserve => exact kept (s.sameClock_takeReserve a bs) (s.takeReserve_drive a bs)
  case stageEntry => exact kept (s.sameClock_takeStage a bs) (s.takeStage_drive a bs)
  case amendEntry => exact kept (s.sameClock_takeAmend a bs) (s.takeAmend_drive a bs)
  case withdrawEntry => exact kept (s.sameClock_takeWithdraw a bs) (s.takeWithdraw_drive a bs)
  case clearStaging => exact kept (s.sameClock_takeClear a) (s.takeClear_drive a)
  case readStaged => exact kept (s.sameClock_takeReadStaged a bs) (s.takeReadStaged_drive a bs)
  case readActive => exact kept (s.sameClock_takeReadActive bs) (s.takeReadActive_drive bs)
  case commit => exact kept (s.sameClock_takeCommit a) (s.takeCommit_drive a)
  case abandon => exact kept (s.sameClock_takeAbandon a) (s.takeAbandon_drive a)
  case setSense => exact kept (s.sameClock_takeSetSense a bs) (s.takeSetSense_drive a bs)
  case armSense => exact kept (s.sameClock_takeArming a bs .arm) (s.takeArming_drive a bs .arm)
  case disarmSense => exact kept (s.sameClock_takeArming a bs .disarm) (s.takeArming_drive a bs .disarm)
  case readCaptures => exact kept (s.sameClock_takeReadCaptures a bs) (s.takeReadCaptures_drive a bs)
  case readNotices => exact kept (s.sameClock_takeReadNotices a bs) (s.takeReadNotices_drive a bs)
  case retract => exact kept (s.sameClock_takeRetract a bs) (s.takeRetract_drive a bs)

end

/-! ## Every step -/

theorem linesSound_reset : LinesSound State.reset :=
  (linesSound_iff _).2 ⟨coherent_reset, timetableFits_reset, fun _ => legalTime_reset.legal_of_inView, linesFit_reset⟩

theorem stepInvariant_linesSound : StepInvariant LinesSound where
  blocks h same := by
    have coherent := stepInvariant_coherent.blocks h.coherent same
    simp only [State.blocks, Blocks.mk.injEq] at same
    obtain ⟨settings, -, ballot, -, -, drive, -, sessions⟩ := same
    exact h.of_engine coherent (.of_eq settings ballot sessions) (by rw [State.engine, settings, drive]; rfl)
  reset := linesSound_reset
  renewLease a h := h.of_engine (h.coherent.renewLease a) (State.inherits_renewLease _ a) rfl
  take a bs c admitted h := h.take a bs admitted
  resetSession a h := h.resetSession a
  advanceCount h := h.advanceCount
  takeTriggerEdge h := h.takeTriggerEdge
  takeGateChange level h := h.takeGateChange level
  takeEdge i e h := h.takeEdge i e
  lowerLeases h := h.of_engine h.coherent.lowerLeases (State.inherits_lowerLeases _) rfl
  expireLease a h := h.expireLease a
  expireDeadline h := h.expireDeadline
  runOutBudget h := h.runOutBudget
  endPulse d h := h.endPulse d
  endGuard d h := h.endGuard d
  sampleLines levels h := h.of_engine (h.coherent.of_holdings rfl) (.of_eq rfl rfl rfl) rfl
  tickDivider h := h.tickDivider
  tickLease h := h.tickLease

/-- Settles O8: with the other invariants, every operation on the blocks keeps lines and pairs fit, so every step
does. -/
theorem stepKeepsDriveLinesFitting : Obligations.StepKeepsDriveLinesFitting := by
  unfold Obligations.StepKeepsDriveLinesFitting
  intro s t coherent legal timetable lines stepped
  have sound : LinesSound s := (linesSound_iff s).2 ⟨coherent, timetable, fun _ => legal.legal_of_inView, lines⟩
  obtain ⟨-, -, -, fits⟩ := (linesSound_iff t).1 (stepInvariant_linesSound.step sound stepped)
  exact fits

end Sys2Proof.Machine
end

section
/-! SUPPORT. PULSE_END and GUARD_END (O38), and forcing (R111, R112, R116): the line that each forcing leaves, the line
report, and what FORCE_LINE and UNFORCE_LINE answer (O35). -/

namespace Sys2Proof.Machine

/-! ## A pulse and a guard at their last count (log entry 8) -/

section

variable {s : State} (live : s.live = true) (d : Drive)
include live

theorem exec_pulseEnd : exec (.pulseEnd d) s = .next (s.endPulse d) := congrArg _ (if_pos live)

theorem exec_guardEnd : exec (.guardEnd d) s = .next (s.endGuard d) := congrArg _ (if_pos live)

end

/-- Settles O38: each row acts on a line at its last count while RUNNING; a pulse ends with a guarded deassert. -/
theorem pulseAndGuardEndAtTheLastCount : Obligations.PulseAndGuardEndAtTheLastCount := by
  unfold Obligations.PulseAndGuardEndAtTheLastCount
  intro d s live
  rw [exec_pulseEnd live, exec_guardEnd live]
  refine ⟨fun running ends high => ?_, fun other => ?_, fun running last => ?_, fun other => ?_⟩
  · have lowered := DriveLine.guardedDeassert_of_asserted (st := s.settings) (d := d)
      (l := { s.line d with pulseEnd := none }) high
    rw [State.endPulse, if_pos ⟨running, ends⟩, DriveLine.endPulse, lowered]
  · rw [State.endPulse, if_neg other]
  · rw [State.endGuard, if_pos ⟨running, last⟩]
  · rw [State.endGuard, if_neg other]

/-! ## The line after forcing and after its end (R111, R112) -/

section

variable {st : Settings} {d : Drive} {l : DriveLine}

theorem DriveLine.force_high_again (forced : l.forcing = .forcedAsserted) : l.force st d true = l := if_pos forced

theorem DriveLine.force_high_anew (anew : l.forcing ≠ .forcedAsserted) :
    l.force st d true = ⟨true, .forcedAsserted, none, none, 0⟩ := if_neg anew

theorem DriveLine.force_low_again (forced : l.forcing = .forcedDeasserted) : l.force st d false = l := if_pos forced

theorem DriveLine.force_low_anew (anew : l.forcing ≠ .forcedDeasserted) : l.force st d false =
    ⟨false, .forcedDeasserted, none, none,
      if l.asserted && interlocked st d then guardOf st d else l.guardRemaining⟩ := by
  simp only [DriveLine.force, Bool.false_eq_true, if_false, if_neg anew, DriveLine.guardedDeassert_asserted,
    DriveLine.guardedDeassert_guardRemaining]

theorem DriveLine.unforce_high (forced : l.forcing = .forcedAsserted) (high : l.asserted = true) :
    l.unforce st d =
      { l with
        forcing := .free
        asserted := false
        pulseEnd := none
        guardRemaining := if interlocked st d then guardOf st d else l.guardRemaining } := by
  rw [DriveLine.unforce, forced]
  exact DriveLine.guardedDeassert_of_asserted (l := { l with forcing := .free }) high

/-- A line forced ASSERTED stands ASSERTED (R98); where one does not, the forcing ends and nothing else does. -/
theorem DriveLine.unforce_high_deasserted (forced : l.forcing = .forcedAsserted) (low : l.asserted = false) :
    l.unforce st d = { l with forcing := .free } := by
  rw [DriveLine.unforce, forced]
  exact DriveLine.guardedDeassert_of_deasserted (l := { l with forcing := .free }) low

theorem DriveLine.unforce_low (forced : l.forcing = .forcedDeasserted) :
    l.unforce st d = { l with forcing := .free } := by
  rw [DriveLine.unforce, forced]

theorem DriveLine.unforce_free (free : l.forcing = .free) : l.unforce st d = l := by
  rw [DriveLine.unforce, free]

end

/-! ## The line report (R116) -/

section

variable (s : State) (d : Drive) (l : DriveLine)

theorem State.report_setLine_self : (s.setLine d l).report d = ⟨l, s.settings.pairSetup.read (pairOf d)⟩ := by
  simp [State.report]

theorem State.report_setLine_partner : (s.setLine d l).report (partner d) =
    ⟨s.line (partner d), s.settings.pairSetup.read (pairOf d)⟩ := by
  simp [State.report, partner_ne]

end

/-! ## FORCE_LINE and UNFORCE_LINE -/

section

variable {s : State} {p : Agent} {d : Drive} {level : Bool} {b v : Byte}

/-- The line number of a drive line is read back. -/
theorem indexBelow_drive (d : Drive) (bs : List Byte) : indexBelow 16 (byteAt (byte d.val :: bs) 0) = some d :=
  indexBelow_eq_some_iff.2 (toNat_byte (by omega))

theorem forceLevelOf_flagByte (b : Byte) (level : Bool) :
    forceLevelOf (byteAt [b, flagByte level] 1) = some level := by
  cases level <;> rfl

/-- Only 00H and 01H are levels (R111). -/
theorem forceLevelOf_eq_none {k : Nat} (other : 2 ≤ k) : forceLevelOf k = none := by
  obtain ⟨j, rfl⟩ := Nat.exists_eq_add_of_le' other
  rfl

theorem State.takeForce_eq : s.takeForce p [byte d.val, flagByte level] =
    if !s.ownsDrive p d then (s, ⟨.lineNotOwned, .lineOf (.drive d)⟩)
    else if level && (s.line d).forcing != .forcedAsserted && blocked s.settings s.drive d then
      (s, ⟨.interlock, .partnerBlocks (partner d) (s.line (partner d)).asserted (s.line (partner d)).forcing
        (s.line (partner d)).guardRemaining⟩)
    else
      (s.setLine d ((s.line d).force s.settings d level),
        ⟨.ok, .lineReport ⟨(s.line d).force s.settings d level, s.settings.pairSetup.read (pairOf d)⟩
          ⟨s.line (partner d), s.settings.pairSetup.read (pairOf d)⟩⟩) := by
  unfold State.takeForce
  rw [indexBelow_drive, forceLevelOf_flagByte]
  dsimp only
  rw [State.report_setLine_self, State.report_setLine_partner]

theorem State.takeForce_bad (bad : 16 ≤ b.toNat ∨ 2 ≤ v.toNat) :
    s.takeForce p [b, v] = (s, refuse .badArgument) := by
  unfold State.takeForce
  cases index : indexBelow 16 (byteAt [b, v] 0) with
  | none => rfl
  | some d =>
    have small : b.toNat = d.val := indexBelow_eq_some_iff.1 index
    have level : forceLevelOf (byteAt [b, v] 1) = none :=
      forceLevelOf_eq_none (bad.resolve_left (by omega))
    rw [level]

theorem State.takeUnforce_eq : s.takeUnforce p [byte d.val] =
    if !s.ownsDrive p d then (s, refuse .lineNotOwned)
    else
      (s.setLine d ((s.line d).unforce s.settings d),
        ⟨.ok, .unforced ⟨(s.line d).unforce s.settings d, s.settings.pairSetup.read (pairOf d)⟩
          ⟨s.line (partner d), s.settings.pairSetup.read (pairOf d)⟩ ((s.line d).forcing != .free)⟩) := by
  unfold State.takeUnforce
  rw [indexBelow_drive]
  dsimp only
  rw [State.report_setLine_self, State.report_setLine_partner]

theorem State.takeUnforce_bad (bad : 16 ≤ b.toNat) : s.takeUnforce p [b] = (s, refuse .badArgument) := by
  unfold State.takeUnforce
  rw [show indexBelow 16 (byteAt [b] 0) = none from indexBelow_eq_none_iff.2 bad]

variable {tag : Byte} (accepts : s.Accepts p) (openState : (s.session p).state = .openState)
include accepts openState

theorem exec_forceLine_open {t : State} {r : Reply}
    (takes : ((s.settle p).renewLease p).takeForce p [b, v] = (t, r)) :
    exec (.forceLine p tag [b, v]) s = .next (t.respond p ⟨tag, 0x0F, r.status, r.data⟩) :=
  exec_answers_open (c := .forceLine) rfl accepts openState (List.mem_singleton.2 rfl) (by decide) takes

theorem exec_unforceLine_open {t : State} {r : Reply}
    (takes : ((s.settle p).renewLease p).takeUnforce p [b] = (t, r)) :
    exec (.unforceLine p tag [b]) s = .next (t.respond p ⟨tag, 0x10, r.status, r.data⟩) :=
  exec_answers_open (c := .unforceLine) rfl accepts openState (List.mem_singleton.2 rfl) (by decide) takes

/-- FORCE_LINE on an owned line, refused INTERLOCK or accepted (R111). -/
theorem exec_forceLine_owned (own : s.driveOwner.read d = some p) :
    (level = true → (s.line d).forcing ≠ .forcedAsserted → blocked s.settings s.drive d = true →
      exec (.forceLine p tag [byte d.val, flagByte level]) s = .next (s.answered p ⟨tag, 0x0F, .interlock,
        .partnerBlocks (partner d) (s.line (partner d)).asserted (s.line (partner d)).forcing
          (s.line (partner d)).guardRemaining⟩))
    ∧ ((level = false ∨ (s.line d).forcing = .forcedAsserted ∨ blocked s.settings s.drive d = false) →
      exec (.forceLine p tag [byte d.val, flagByte level]) s = .next
        ((s.answered p ⟨tag, 0x0F, .ok, .lineReport
          ⟨(s.line d).force s.settings d level, s.settings.pairSetup.read (pairOf d)⟩
          ⟨s.line (partner d), s.settings.pairSetup.read (pairOf d)⟩⟩).setLine d
            ((s.line d).force s.settings d level))) := by
  have owned : ¬ (!((s.settle p).renewLease p).ownsDrive p d) = true := by simp [State.ownsDrive, own]
  refine ⟨fun high anew held => ?_, fun passes => ?_⟩
  · refine exec_forceLine_open accepts openState (State.takeForce_eq.trans ((if_neg owned).trans (if_pos ?_)))
    show (level && (s.line d).forcing != .forcedAsserted && blocked s.settings s.drive d) = true
    simp [high, anew, held]
  · refine exec_forceLine_open accepts openState (State.takeForce_eq.trans ((if_neg owned).trans (if_neg ?_)))
    show ¬ (level && (s.line d).forcing != .forcedAsserted && blocked s.settings s.drive d) = true
    rcases passes with low | forced | free
    · simp [low]
    · simp [forced]
    · simp [free]

/-- UNFORCE_LINE on an owned line (R112). -/
theorem exec_unforceLine_owned (own : s.driveOwner.read d = some p) :
    exec (.unforceLine p tag [byte d.val]) s = .next
      ((s.answered p ⟨tag, 0x10, .ok, .unforced
        ⟨(s.line d).unforce s.settings d, s.settings.pairSetup.read (pairOf d)⟩
        ⟨s.line (partner d), s.settings.pairSetup.read (pairOf d)⟩ ((s.line d).forcing != .free)⟩).setLine d
          ((s.line d).unforce s.settings d)) := by
  have owned : ¬ (!((s.settle p).renewLease p).ownsDrive p d) = true := by simp [State.ownsDrive, own]
  exact exec_unforceLine_open accepts openState (State.takeUnforce_eq.trans (if_neg owned))

end

/-- A line is not blocked where its pair is not interlocked, or its partner neither ASSERTED nor in guard (R99). -/
theorem not_blocked_of {st : Settings} {lines : Bank DriveLine 16} {d : Drive} (free : interlocked st d = false
    ∨ ((lines.read (partner d)).asserted = false ∧ (lines.read (partner d)).guardRemaining = 0)) :
    blocked st lines d = false := by
  rcases free with single | ⟨low, guard⟩
  · exact blocked_of_free single lines
  · simp [blocked, low, guard]

/-- Settles O35: FORCE_LINE and UNFORCE_LINE write the line that R111 and R112 give, or refuse before any change. -/
theorem forcingHoldsAndReturnsALine : Obligations.ForcingHoldsAndReturnsALine := by
  unfold Obligations.ForcingHoldsAndReturnsALine
  have foreign {s : State} {p : Agent} {d : Drive} (other : s.driveOwner.read d ≠ some p) :
      (!((s.settle p).renewLease p).ownsDrive p d) = true := by simpa [State.ownsDrive] using other
  refine ⟨fun p tag s accepts openState => ⟨fun d level l' own highAgain highAnew lowAgain lowAnew => ?_,
      fun d level other => ?_, fun b v bad => ?_⟩,
    fun p tag s accepts openState => ⟨fun d l' own high odd low free => ?_, fun d other => ?_, fun b bad => ?_⟩⟩
  · have line : l' = (s.line d).force s.settings d level := by
      cases level with
      | true =>
        by_cases forced : (s.line d).forcing = .forcedAsserted
        · rw [highAgain rfl forced, DriveLine.force_high_again forced]
        · rw [highAnew rfl forced, DriveLine.force_high_anew forced]
      | false =>
        by_cases forced : (s.line d).forcing = .forcedDeasserted
        · rw [lowAgain rfl forced, DriveLine.force_low_again forced]
        · rw [lowAnew rfl forced, DriveLine.force_low_anew forced]
    obtain ⟨refused, accepted⟩ := exec_forceLine_owned (level := level) (tag := tag) accepts openState own
    rw [line]
    exact ⟨fun level anew linked held => refused level anew ((blocked_iff _ _ d).2 ⟨linked, held⟩),
      fun passes => accepted (passes.imp_right (·.imp_right not_blocked_of))⟩
  · exact exec_forceLine_open accepts openState (State.takeForce_eq.trans (if_pos (foreign other)))
  · exact exec_forceLine_open accepts openState (State.takeForce_bad bad)
  · have line : l' = (s.line d).unforce s.settings d := by
      cases forced : (s.line d).forcing with
      | free => rw [free forced, DriveLine.unforce_free forced]
      | forcedDeasserted => rw [low forced, DriveLine.unforce_low forced]
      | forcedAsserted =>
        cases level : (s.line d).asserted with
        | true => rw [high forced level, DriveLine.unforce_high forced level]
        | false => rw [odd forced level, DriveLine.unforce_high_deasserted forced level]
    rw [line]
    exact exec_unforceLine_owned accepts openState own
  · exact exec_unforceLine_open accepts openState (State.takeUnforce_eq.trans (if_pos (foreign other)))
  · exact exec_unforceLine_open accepts openState (State.takeUnforce_bad bad)

end Sys2Proof.Machine
end

section
/-! SUPPORT. Deferred asserts that are resolved, one line after another in ascending order (R106 to R108, R110), for
O37. -/

namespace Sys2Proof.Machine

/-! ## One line after another -/

/-- An operation on one line at a time that leaves the state as it is, or resolves the line's deferred assert and tells
the owner of the line (R110). -/
def Resolves (n : Cycle) (taken : Bool) (f : State → Drive → State) : Prop :=
  ∀ s d, f s d = s ∨ ∃ x l, (s.line d).deferred = some x ∧ l.deferred = none
    ∧ f s d = (s.setLine d l).notifyResolved n d x taken

/-- INTERLOCK_RESOLVED for line `d`, with the deferred assert that the line has in `s`, offered to a session that has
not ended (R110, R154). -/
def State.tellResolved (s : State) (n : Cycle) (taken : Bool) (q : Session) (d : Drive) : Session :=
  if q.state.present then
    q.offer ⟨.interlockResolved d (((s.line d).deferred.map fun x => x.cycle).getD 0) taken, n⟩
  else q

/-- From `s` to `t` the deferred assert of line `d` has been resolved, and agent `a` owns the line. -/
def State.resolvedFor (s t : State) (a : Agent) (d : Drive) : Bool :=
  (s.line d).deferred.isSome && (t.line d).deferred == none && s.driveOwner.read d == some a

/-- Only the owner of the line is told. -/
theorem State.session_notifyResolved {s : State} {d : Drive} {x : Deferred} {u : State} (n : Cycle) (taken : Bool)
    (a : Agent) (deferred : (s.line d).deferred = some x) :
    (u.notifyResolved n d x taken).session a =
      if u.driveOwner.read d == some a then s.tellResolved n taken (u.session a) d else u.session a := by
  unfold State.notifyResolved State.tellResolved
  rw [deferred]
  cases owner : u.driveOwner.read d with
  | none => rfl
  | some b =>
    dsimp only
    rw [State.notify, State.session_notifyEach]
    by_cases own : a = b
    · simp [own]
    · have other : ¬ b = a := fun same => own same.symm
      simp [own, other]

theorem State.line_notifyResolved (s : State) (n : Cycle) (d e : Drive) (x : Deferred) (taken : Bool) :
    (s.notifyResolved n d x taken).line e = s.line e := by
  rw [State.line, State.notifyResolved_drive]
  rfl

theorem State.notifyResolved_frame (s : State) (n : Cycle) (d : Drive) (x : Deferred) (taken : Bool) :
    s.notifyResolved n d x taken = { s with sessions := (s.notifyResolved n d x taken).sessions } := by
  unfold State.notifyResolved
  split <;> rfl

section

variable {n : Cycle} {taken : Bool} {f : State → Drive → State} (h : Resolves n taken f)
include h

/-- Only drive lines and sessions are concerned. -/
theorem Resolves.frame (s : State) (d : Drive) :
    f s d = { s with drive := (f s d).drive, sessions := (f s d).sessions } := by
  rcases h s d with eq | ⟨x, l, -, -, eq⟩ <;> rw [eq]
  rw [State.notifyResolved_drive, State.notifyResolved_frame]
  rfl

theorem Resolves.line_of_ne (s : State) {d e : Drive} (ne : e ≠ d) : (f s d).line e = s.line e := by
  rcases h s d with eq | ⟨x, l, -, -, eq⟩ <;> rw [eq]
  rw [State.line_notifyResolved, State.line_setLine, if_neg ne]

theorem Resolves.session (s : State) (d : Drive) (a : Agent) : (f s d).session a =
    if s.resolvedFor (f s d) a d then s.tellResolved n taken (s.session a) d else s.session a := by
  rcases h s d with eq | ⟨x, l, deferred, resolved, eq⟩ <;> rw [eq]
  · have kept : s.resolvedFor s a d = false := by cases waits : (s.line d).deferred <;> simp [State.resolvedFor, waits]
    rw [kept]
    rfl
  · rw [State.session_notifyResolved n taken a deferred]
    simp [State.resolvedFor, deferred, resolved, State.line_notifyResolved]

theorem Resolves.foldl_frame (ds : List Drive) (s : State) : ds.foldl f s =
    { s with drive := (ds.foldl f s).drive, sessions := (ds.foldl f s).sessions } := by
  induction ds generalizing s with
  | nil => rfl
  | cons d ds ih =>
    rw [List.foldl_cons, ih, h.frame s d]

theorem Resolves.foldl_line_of_notMem {ds : List Drive} {e : Drive} (out : e ∉ ds) (s : State) :
    (ds.foldl f s).line e = s.line e := by
  induction ds generalizing s with
  | nil => rfl
  | cons d ds ih =>
    obtain ⟨ne, out⟩ := not_or.1 (List.mem_cons.not.1 out)
    rw [List.foldl_cons, ih out, h.line_of_ne s ne]

/-- The owner of each line that is resolved is told, in the order of the lines (R110). -/
theorem Resolves.foldl_session {ds : List Drive} (distinct : ds.Nodup) (s : State) (a : Agent) :
    (ds.foldl f s).session a =
      (ds.filter (s.resolvedFor (ds.foldl f s) a)).foldl (s.tellResolved n taken) (s.session a) := by
  induction ds generalizing s with
  | nil => rfl
  | cons d ds ih =>
    obtain ⟨out, distinct⟩ := List.nodup_cons.1 distinct
    have owner : (f s d).driveOwner = s.driveOwner := by rw [h.frame s d]
    have later (e : Drive) (mem : e ∈ ds) : (f s d).line e = s.line e :=
      h.line_of_ne s fun same => out (same ▸ mem)
    have own : (ds.foldl f (f s d)).line d = (f s d).line d := h.foldl_line_of_notMem out _
    have first : s.resolvedFor (ds.foldl f (f s d)) a d = s.resolvedFor (f s d) a d := by
      simp only [State.resolvedFor, own]
    have rest : ds.filter ((f s d).resolvedFor (ds.foldl f (f s d)) a)
        = ds.filter (s.resolvedFor (ds.foldl f (f s d)) a) :=
      List.filter_congr fun e mem => by simp only [State.resolvedFor, later e mem, owner]
    have told (q : Session) (ds' : List Drive) (sub : ∀ e ∈ ds', e ∈ ds) :
        ds'.foldl ((f s d).tellResolved n taken) q = ds'.foldl (s.tellResolved n taken) q :=
      List.foldl_ext _ _ _ fun q e mem => by simp only [State.tellResolved, later e (sub e mem)]
    rw [List.foldl_cons, ih distinct, rest, told _ _ fun e mem => (List.mem_filter.1 mem).1, h.session s d a,
      List.filter_cons, first]
    split <;> rfl

/-- Each line is resolved, or not, in a state with its own record as before, and its partner's as left or as before. -/
theorem Resolves.foldl_line {ds : List Drive} (sorted : ds.Pairwise (· < ·)) (s : State) {d : Drive} (mem : d ∈ ds) :
    ∃ u : State, (ds.foldl f s).line d = (f u d).line d ∧ u.line d = s.line d ∧ u.settings = s.settings
      ∧ u.time = s.time
      ∧ u.line (partner d) = if partner d < d then (ds.foldl f s).line (partner d) else s.line (partner d) := by
  induction ds generalizing s with
  | nil => cases mem
  | cons c ds ih =>
    obtain ⟨first, sorted⟩ := List.pairwise_cons.1 sorted
    have absent : c ∉ ds := fun mem => lt_irrefl c (first c mem)
    rw [List.foldl_cons]
    rcases List.mem_cons.1 mem with rfl | mem
    · refine ⟨s, h.foldl_line_of_notMem absent _, rfl, rfl, rfl, ?_⟩
      split
      · next before =>
        rw [h.foldl_line_of_notMem (fun mem => absurd (first _ mem) (not_lt.2 before.le)),
          h.line_of_ne s (partner_ne d)]
      · rfl
    · obtain ⟨u, line, own, settings, time, other⟩ := ih sorted (f s c) mem
      have frame := h.frame s c
      refine ⟨u, line, own.trans (h.line_of_ne s (first d mem).ne'), settings.trans (by rw [frame]),
        time.trans (by rw [frame]), other.trans ?_⟩
      split
      · rfl
      · next after => exact h.line_of_ne s fun same => after (same ▸ first d mem)

end

/-! ## Deferred asserts taken, and lapsed -/

theorem resolves_takeDeferral (n : Cycle) : Resolves n true (State.takeDeferral n) := by
  intro s d
  unfold State.takeDeferral
  split
  · exact .inl rfl
  · next x deferred =>
    split
    · exact .inl rfl
    · exact .inr ⟨x, (s.line d).takeDeferred x, deferred, rfl, rfl⟩

theorem resolves_lapseDeferral (n : Cycle) : Resolves n false (State.lapseDeferral n) := by
  intro s d
  unfold State.lapseDeferral
  split
  · exact .inl rfl
  · next x deferred =>
    split
    · exact .inl rfl
    · exact .inr ⟨x, { s.line d with deferred := none }, deferred, rfl, rfl⟩

/-- A deferred assert on a line that is not blocked is taken (R107). -/
theorem State.takeDeferral_line_self {s : State} (n : Cycle) {d : Drive} {x : Deferred}
    (deferred : (s.line d).deferred = some x) : (s.takeDeferral n d).line d =
      if blocked s.settings s.drive d then s.line d else (s.line d).takeDeferred x := by
  unfold State.takeDeferral
  rw [deferred]
  dsimp only
  split
  · rfl
  · rw [State.line_notifyResolved, State.line_setLine, if_pos rfl]

/-- A deferred assert not made in the cycle lapses (R108). -/
theorem State.lapseDeferral_line_self (s : State) (n : Cycle) (d : Drive) : (s.lapseDeferral n d).line d =
    match (s.line d).deferred with
    | none => s.line d
    | some x => if x.cycle = s.time.cycle then s.line d else { s.line d with deferred := none } := by
  unfold State.lapseDeferral
  cases (s.line d).deferred with
  | none => rfl
  | some x =>
    dsimp only
    split
    · rfl
    · rw [State.line_notifyResolved, State.line_setLine, if_pos rfl]

theorem DriveLine.lowerPulse_forcing (st : Settings) (d : Drive) (l : DriveLine) :
    (l.lowerPulse st d).forcing = l.forcing := by
  unfold DriveLine.lowerPulse
  split
  · rfl
  · split
    · unfold DriveLine.endPulse DriveLine.guardedDeassert
      split <;> rfl
    · rfl

/-- The lines as steps 1 and 2 of R106 leave them. -/
def State.loweredLines (s : State) : State := { s with drive := lowerPulses s.settings (lowerGuards s.drive) }

theorem State.loweredLines_line (s : State) (d : Drive) : s.loweredLines.line d =
    ({ s.line d with guardRemaining := (s.line d).guardRemaining - 1 } : DriveLine).lowerPulse s.settings d := by
  simp [State.loweredLines, lowerPulses, lowerGuards, State.line]

theorem State.loweredLines_deferred (s : State) (d : Drive) :
    (s.loweredLines.line d).deferred = (s.line d).deferred := by
  rw [State.loweredLines_line, DriveLine.lowerPulse_deferred]

theorem State.loweredLines_forcing (s : State) (d : Drive) : (s.loweredLines.line d).forcing = (s.line d).forcing := by
  rw [State.loweredLines_line, DriveLine.lowerPulse_forcing]

section

variable (s : State) (n : Cycle)

theorem State.countdown_eq : s.countdown n = (List.finRange 16).foldl (State.takeDeferral n) s.loweredLines := rfl

/-- A line that waits takes its deferred assert, unless it is blocked by what its partner has been lowered to, or, as
the higher line of the pair, by what its partner has been left as (R107). -/
theorem State.countdown_line_of_some {d : Drive} {x : Deferred} (deferred : (s.line d).deferred = some x) :
    (s.countdown n).line d =
      if (if d.val % 2 = 0 then blocked s.settings s.loweredLines.drive d
        else blocked s.settings (s.countdown n).drive d) then s.loweredLines.line d
      else ⟨true, (s.line d).forcing, x.kind.width, none, 0⟩ := by
  obtain ⟨u, line, own, settings, -, other⟩ := (resolves_takeDeferral n).foldl_line (List.pairwise_lt_finRange 16)
    s.loweredLines (List.mem_finRange d)
  rw [← State.countdown_eq] at line other
  have waits : (u.line d).deferred = some x := by rw [own, State.loweredLines_deferred, deferred]
  have held : blocked u.settings u.drive d = if d.val % 2 = 0 then blocked s.settings s.loweredLines.drive d
      else blocked s.settings (s.countdown n).drive d := by
    rw [settings]
    by_cases even : d.val % 2 = 0
    · rw [if_neg (by rw [partner_lt_iff]; exact not_not.2 even)] at other
      rw [if_pos even]
      exact blocked_congr _ other
    · rw [if_pos ((partner_lt_iff d).2 even)] at other
      rw [if_neg even]
      exact blocked_congr _ other
  rw [line, State.takeDeferral_line_self n waits, held, own, ← State.loweredLines_forcing]
  rfl

theorem State.countdown_session (a : Agent) : (s.countdown n).session a =
    ((List.finRange 16).filter (s.resolvedFor (s.countdown n) a)).foldl (s.tellResolved n true) (s.session a) := by
  have resolved (t : State) : s.loweredLines.resolvedFor t a = s.resolvedFor t a := funext fun d => by
    rw [State.resolvedFor, State.loweredLines_deferred]
    rfl
  have told : s.loweredLines.tellResolved n true = s.tellResolved n true := funext₂ fun q d => by
    rw [State.tellResolved, State.loweredLines_deferred]
    rfl
  have session := (resolves_takeDeferral n).foldl_session (List.nodup_finRange 16) s.loweredLines a
  rwa [← State.countdown_eq, resolved, told] at session

theorem State.countdown_frame :
    s.countdown n = { s with drive := (s.countdown n).drive, sessions := (s.countdown n).sessions } := by
  have frame := (resolves_takeDeferral n).foldl_frame (List.finRange 16) s.loweredLines
  rwa [← State.countdown_eq] at frame

theorem State.lapseDeferrals_line (d : Drive) : (s.lapseDeferrals n).line d =
    match (s.line d).deferred with
    | none => s.line d
    | some x => if x.cycle = s.time.cycle then s.line d else { s.line d with deferred := none } := by
  obtain ⟨u, line, own, -, time, -⟩ := (resolves_lapseDeferral n).foldl_line (List.pairwise_lt_finRange 16) s
    (List.mem_finRange d)
  rw [State.lapseDeferrals, line, State.lapseDeferral_line_self, own, time]

theorem State.lapseDeferrals_session (a : Agent) : (s.lapseDeferrals n).session a =
    ((List.finRange 16).filter (s.resolvedFor (s.lapseDeferrals n) a)).foldl (s.tellResolved n false) (s.session a) :=
  (resolves_lapseDeferral n).foldl_session (List.nodup_finRange 16) s a

theorem State.lapseDeferrals_frame : s.lapseDeferrals n =
    { s with drive := (s.lapseDeferrals n).drive, sessions := (s.lapseDeferrals n).sessions } :=
  (resolves_lapseDeferral n).foldl_frame _ s

end

/-- Settles O37: the lines lowered, then each deferred assert in line order, taken by `State.takeDeferral` or lapsed by
`State.lapseDeferral`, and told to the owner of its line. -/
theorem deferredAssertsAreTakenOrLapse : Obligations.DeferredAssertsAreTakenOrLapse := by
  unfold Obligations.DeferredAssertsAreTakenOrLapse
  refine ⟨fun n s t low eq lowered => ?_, fun n s t eq => ?_⟩
  · have line (d : Drive) : s.loweredLines.line d = low.read d :=
      (s.loweredLines_line d).trans ((DriveLine.lowered_eq s.settings d (s.line d)).trans (lowered d).symm)
    have lines : s.loweredLines.drive = low := Bank.ext_read line
    refine ⟨fun d none => ?_, fun d x deferred => ?_, fun a => ?_, ?_⟩
    · rw [eq, s.countdown_line_of_none n none, ← State.loweredLines_line, line]
    · rw [eq, s.countdown_line_of_some n deferred, lines, line]
      rfl
    · rw [eq]
      exact s.countdown_session n a
    · rw [eq]
      exact s.countdown_frame n
  · refine ⟨fun d => ?_, fun a => ?_, ?_⟩ <;> rw [eq]
    · exact s.lapseDeferrals_line n d
    · exact s.lapseDeferrals_session n a
    · exact s.lapseDeferrals_frame n

end Sys2Proof.Machine
end

section
/-! SUPPORT. The queues of the sessions within their capacities (R127 to R129, R153, R155): kept by every operation on
the blocks. What changes a queue is a notice offered, a record made, and the two reads. -/

namespace Sys2Proof.Machine

/-! ## The queues of one session -/

/-- The queues of a session with the counts of what was lost. -/
structure Queues where
  notices : List Notice
  lostNotices : Nat
  captures : List CaptureRecord
  lostSense : Bank Nat 8
  lostMarker : Nat

def Session.queues (q : Session) : Queues := ⟨q.notices, q.lostNotices, q.captures, q.lostSense, q.lostMarker⟩

/-- No queue is longer than its capacity, and no count is above 255. -/
structure Queues.Fit (x : Queues) : Prop where
  notices : x.notices.length ≤ 8
  lostNotices : x.lostNotices ≤ 255
  captures : x.captures.length ≤ 32
  lostSense : ∀ i, x.lostSense.read i ≤ 255
  lostMarker : x.lostMarker ≤ 255

section

variable {q : Session} (h : q.queues.Fit)
include h

theorem Queues.Fit.offer (x : Notice) : (q.offer x).queues.Fit where
  notices := Session.offer_length x h.notices
  lostNotices := Session.offer_lost x h.lostNotices
  captures := (congrArg List.length (q.offer_captures x)).trans_le h.captures
  lostSense i := (congrArg (Bank.read · i) (q.offer_lostSense x)).trans_le (h.lostSense i)
  lostMarker := (q.offer_lostMarker x).trans_le h.lostMarker

/-- A record joins a queue with room (R127). -/
theorem Queues.Fit.join {r : CaptureRecord} (room : q.captures.length < 32) :
    ({ q.queues with captures := q.captures ++ [r] } : Queues).Fit where
  notices := h.notices
  lostNotices := h.lostNotices
  captures := by simpa using room
  lostSense := h.lostSense
  lostMarker := h.lostMarker

/-- A dropped record raises one count, which saturates (R129). -/
theorem Queues.Fit.countLoss (source : LossSource) : (q.countLoss source).queues.Fit := by
  cases source with
  | marker => exact ⟨h.notices, h.lostNotices, h.captures, h.lostSense, Nat.min_le_left _ _⟩
  | sense i =>
    refine ⟨h.notices, h.lostNotices, h.captures, fun j => ?_, h.lostMarker⟩
    show (q.lostSense.write i (min 255 (q.lostSense.read i + 1))).read j ≤ 255
    rw [Bank.read_write]
    split
    · exact Nat.min_le_left _ _
    · exact h.lostSense j

/-- READ_CAPTURES takes records away and clears the counts of lost ones (R130). -/
theorem Queues.Fit.readCaptures (k : Nat) :
    Queues.Fit ⟨q.notices, q.lostNotices, q.captures.drop k, Bank.fill 8 0, 0⟩ where
  notices := h.notices
  lostNotices := h.lostNotices
  captures := (List.drop_sublist k _).length_le.trans h.captures
  lostSense := by simp
  lostMarker := Nat.zero_le _

/-- READ_NOTICES takes notices away (R156). -/
theorem Queues.Fit.readNotices (k : Nat) :
    Queues.Fit ⟨q.notices.drop k, q.lostNotices, q.captures, q.lostSense, q.lostMarker⟩ where
  notices := (List.drop_sublist k _).length_le.trans h.notices
  lostNotices := h.lostNotices
  captures := h.captures
  lostSense := h.lostSense
  lostMarker := h.lostMarker

/-- NOTICES_LOST joins a notice queue that at least one notice has left (R157). -/
theorem Queues.Fit.readNotices_lost {k : Nat} (read : q.notices.take k ≠ []) (lost : Notice) :
    Queues.Fit ⟨q.notices.drop k ++ [lost], 0, q.captures, q.lostSense, q.lostMarker⟩ where
  notices := by
    have some : 0 < (q.notices.take k).length := List.length_pos_iff.2 read
    have all : q.notices.length ≤ 8 := h.notices
    rw [List.length_take] at some
    simp only [List.length_append, List.length_drop, List.length_singleton]
    omega
  lostNotices := Nat.zero_le _
  captures := h.captures
  lostSense := h.lostSense
  lostMarker := h.lostMarker

/-- INTERLOCK_RESOLVED of one line after another (R110). -/
theorem Queues.Fit.foldl_tellResolved (s : State) (n : Cycle) (taken : Bool) (ds : List Drive) :
    (ds.foldl (s.tellResolved n taken) q).queues.Fit := by
  refine List.foldlRecOn (motive := fun r : Session => r.queues.Fit) _ _ h fun r fit d _ => ?_
  unfold State.tellResolved
  split
  · exact fit.offer _
  · exact fit

end

theorem Session.fit_vacant (after : SessionState) (epoch : Byte) : (Session.vacant after epoch).queues.Fit := by
  constructor <;> simp [Session.queues, Session.vacant]

@[simp] theorem Session.renew_queues (q : Session) : q.renew.queues = q.queues := by
  simp [Session.queues]

theorem Session.lowerLease_queues (q : Session) : q.lowerLease.queues = q.queues := by
  unfold Session.lowerLease
  split <;> rfl

/-! ## The queues of every session -/

/-- The queues of every session are within their capacities. -/
def SessionsFit (s : State) : Prop := ∀ a, (s.session a).queues.Fit

theorem SessionsFit.of_sessions {s t : State} (h : SessionsFit s) (same : t.sessions = s.sessions) : SessionsFit t := by
  intro a
  rw [State.session, same]
  exact h a

section

variable {s : State} (h : SessionsFit s)
include h

theorem SessionsFit.setSession {a : Agent} {q : Session} (fit : q.queues.Fit) : SessionsFit (s.setSession a q) := by
  intro b
  rw [State.session_setSession]
  split
  · exact fit
  · exact h b

theorem SessionsFit.notifyEach (n : Cycle) (k : NoticeKind) (who : Agent → Bool) :
    SessionsFit (s.notifyEach n k who) := by
  intro a
  rw [State.session_notifyEach]
  split
  · exact (h a).offer _
  · exact h a

theorem SessionsFit.makeRecord (a : Agent) (kind : RecordKind) (count : Nat) :
    SessionsFit (s.makeRecord a kind count) := by
  unfold State.makeRecord
  dsimp only
  split
  · next room =>
    have joined : SessionsFit (s.setSession a
        { s.session a with
          captures := (s.session a).captures ++ [⟨kind, (s.session a).sequence, s.time.cycle, count⟩]
          sequence := (s.session a).sequence + 1 }) := h.setSession ((h a).join room)
    split
    · exact joined.notifyEach _ _ _
    · exact joined
  · have dropped : SessionsFit (s.setSession a
        { (s.session a).countLoss kind.source with
          sequence := (s.session a).sequenceAfterDrop, overrun := true }) :=
      h.setSession ((h a).countLoss kind.source)
    split
    · exact dropped
    · exact dropped.notifyEach _ _ _

/-! ## Counts reached, countdowns and cycles (R3, R59, R106, R108) -/

theorem SessionsFit.serve (x : Agent × Entry) : SessionsFit (s.serve x) := by
  cases target : x.2.target with
  | drive d =>
    rw [s.serve_drive target]
    exact h.of_sessions rfl
  | sense i =>
    rw [s.serve_sense target]
    exact h.of_sessions rfl
  | marker =>
    rw [s.serve_marker target]
    unfold State.serveMark
    split
    · exact h.makeRecord _ _ _
    · exact h

theorem SessionsFit.reach (count : Nat) : SessionsFit (s.reach count) := by
  rw [State.reach_eq]
  exact List.foldlRecOn _ _ (h.of_sessions (t := s.atCount count) rfl) fun t fits x _ => fits.serve x

theorem SessionsFit.countdown (n : Cycle) : SessionsFit (s.countdown n) := by
  intro a
  rw [State.countdown_session]
  exact (h a).foldl_tellResolved s n true _

theorem SessionsFit.lapseDeferrals (n : Cycle) : SessionsFit (s.lapseDeferrals n) := by
  intro a
  rw [State.lapseDeferrals_session]
  exact (h a).foldl_tellResolved s n false _

theorem SessionsFit.beginCycle : SessionsFit s.beginCycle := by
  have new : SessionsFit s.newCycle := h.of_sessions rfl
  unfold State.beginCycle
  split
  · exact new.reach 0
  · exact new

/-! ## Ballots (R146 to R150) -/

theorem SessionsFit.applyIfIdle : SessionsFit s.applyIfIdle := by
  unfold State.applyIfIdle
  split
  · next b p slot =>
    split
    · exact h
    · have applied : SessionsFit (s.applySettings p) := h.of_sessions (s.applySettings_sessions p)
      have begun : SessionsFit ((s.applySettings p).beginIfStarted s.time.run) := by
        unfold State.beginIfStarted
        split
        · exact applied.beginCycle
        · exact applied
      have emptied : SessionsFit ((s.applySettings p).beginIfStarted s.time.run).emptySlot := begun.of_sessions rfl
      have told :
          SessionsFit ((((s.applySettings p).beginIfStarted s.time.run).emptySlot).notifyIfChanged s.time.run) := by
        unfold State.notifyIfChanged
        split
        · exact emptied
        · exact emptied.notifyEach _ _ _
      exact told.notifyEach _ _ _
  · exact h
  · exact h

theorem SessionsFit.failBallot (n : Cycle) (b : OpenBallot) (reason : FailReason) :
    SessionsFit (s.failBallot n b reason) := (h.notifyEach _ _ _).of_sessions rfl

theorem SessionsFit.passBallot (n : Cycle) (b : OpenBallot) : SessionsFit (s.passBallot n b) :=
  (h.notifyEach _ _ _).of_sessions rfl

theorem SessionsFit.holdOrPass (n : Cycle) (b : OpenBallot) : SessionsFit (s.holdOrPass n b) := by
  unfold State.holdOrPass
  split
  · exact h.passBallot n b
  · exact h.of_sessions rfl

theorem SessionsFit.leaveBallot (n : Cycle) (a : Agent) : SessionsFit (s.leaveBallot n a) := by
  obtain ⟨k, who, b, left, -⟩ := s.leaveBallot_cases n a
  rw [left]
  exact (h.notifyEach n k who).of_sessions rfl

theorem SessionsFit.expireDeadline : SessionsFit s.expireDeadline := by
  unfold State.expireDeadline
  split
  · split
    · exact h.failBallot _ _ _
    · exact h
  · exact h
  · exact h

/-! ## Leases and teardowns (R18, R23, R32, R36) -/

theorem SessionsFit.renewLease (a : Agent) : SessionsFit (s.renewLease a) :=
  h.setSession ((s.session a).renew_queues ▸ h a)

theorem SessionsFit.lowerLeases : SessionsFit s.lowerLeases := by
  intro a
  have lowered : s.lowerLeases.session a = (s.session a).lowerLease := Bank.read_build _ a
  rw [lowered, Session.lowerLease_queues]
  exact h a

theorem SessionsFit.tearDown (n : Cycle) (a : Agent) (after : SessionState) (reason : LeaveReason) :
    SessionsFit (s.tearDown n a after reason) := by
  have cleared : SessionsFit (s.clearLines a) := h.of_sessions rfl
  have vacated : SessionsFit ((s.clearLines a).vacate a after) := cleared.setSession (Session.fit_vacant after _)
  exact (vacated.leaveBallot n a).notifyEach _ _ _

theorem SessionsFit.tearDownNow (a : Agent) (after : SessionState) (reason : LeaveReason) :
    SessionsFit (s.tearDownNow a after reason) := (h.tearDown _ a after reason).applyIfIdle

theorem SessionsFit.expireLease (a : Agent) : SessionsFit (s.expireLease a) := by
  unfold State.expireLease
  split
  · exact h.tearDownNow a _ _
  · exact h

theorem SessionsFit.resetSession (a : Agent) : SessionsFit (s.resetSession a) := by
  unfold State.resetSession
  split
  · exact h.tearDownNow a _ _
  · exact h.setSession (h a)

/-! ## Boundaries (R13, R14) -/

theorem SessionsFit.exchangeAll (n : Cycle) : SessionsFit (s.exchangeAll n) := by
  intro a
  rw [State.exchangeAll_session]
  unfold State.exchanged
  split
  · exact h a
  · have exchanged : Queues.Fit { s.session a with
        active := (s.session a).staging, applied := some n, commit := .none : Session }.queues := h a
    dsimp only
    split
    · exact exchanged.offer _
    · exact h a

theorem SessionsFit.applyAtBoundary (n : Cycle) : SessionsFit (s.applyAtBoundary n) := by
  unfold State.applyAtBoundary
  split
  · next p _ =>
    have applied : SessionsFit (s.applySettings p).emptySlot := h.of_sessions (s.applySettings_sessions p)
    exact applied.notifyEach _ _ _
  · exact h
  · exact h

theorem SessionsFit.tearDownClosing (n : Cycle) : SessionsFit (s.tearDownClosing n) := by
  obtain ⟨order, k, -, eq⟩ := s.tearDownClosing_perm n
  have torn : SessionsFit (order.foldl (fun u a => u.tearDown n a .closed .closed) s) :=
    List.foldlRecOn _ _ h fun _ fits a _ => fits.tearDown n a _ _
  rw [eq]
  exact torn.of_sessions rfl

theorem SessionsFit.completeBoundary : SessionsFit s.completeBoundary := by
  cases run : s.time.run.isRunning
  · rw [s.completeBoundary_idle run]
    exact h
  · rw [s.completeBoundary_running run]
    exact SessionsFit.beginCycle (s := s.resumed) (h.of_sessions rfl)

theorem SessionsFit.notifyBoundary (n : Cycle) (r1 r3 : RunState) : SessionsFit (s.notifyBoundary n r1 r3) := by
  unfold State.notifyBoundary
  split
  · exact h.notifyEach _ _ _
  · split
    · exact h
    · exact h.notifyEach _ _ _

theorem SessionsFit.boundary (normal : Bool) : SessionsFit (s.boundary normal) := by
  have counted : SessionsFit (s.lastCount normal) := by
    unfold State.lastCount
    split
    · exact h.countdown _
    · exact h
  have closed : SessionsFit (s.cycleClosed normal) := by
    rw [State.cycleClosed, State.examineBudget_frame]
    exact counted.of_sessions rfl
  have applied : SessionsFit (s.ballotApplied normal) := (closed.exchangeAll _).applyAtBoundary _
  rw [State.boundary_eq]
  exact ((applied.tearDownClosing _).lapseDeferrals _).completeBoundary.notifyBoundary _ _ _

/-! ## Count advances, edges and gate changes (R1, R7, R9, R10, R123) -/

theorem SessionsFit.setTime (t : TimeBase) : SessionsFit (s.setTime t) := h.of_sessions rfl

theorem SessionsFit.withCount (k : Nat) : SessionsFit (s.withCount k) := h.of_sessions rfl

theorem SessionsFit.advanceCount : SessionsFit s.advanceCount := by
  have counted : SessionsFit s.counted := ((h.setTime _).countdown _).withCount _
  rw [State.advanceCount_eq]
  split
  · split
    · exact counted.reach _
    · exact (h.setTime _).boundary true
  · exact h

theorem SessionsFit.useTrigger : SessionsFit s.useTrigger := by
  by_cases start : s.time.run = .armed ∧ s.settings.mode = .triggered
  · rw [s.useTrigger_start start.1 start.2, State.triggerStart_eq]
    exact (SessionsFit.beginCycle (s := s.triggered) (h.setTime _)).notifyEach _ _ _
  · by_cases restart : s.time.run = .running ∧ s.settings.mode = .restart
    · rw [s.useTrigger_restart restart.1 restart.2]
      exact h.boundary false
    · rw [s.useTrigger_other start restart]
      exact h

theorem SessionsFit.takeTriggerEdge : SessionsFit s.takeTriggerEdge := by
  unfold State.takeTriggerEdge
  split
  · exact h
  · next i _ =>
    have shown : SessionsFit { s.showLevel i .high with time := { s.time with trigger := .at_ .high } } :=
      h.of_sessions rfl
    exact shown.useTrigger

theorem SessionsFit.useGate (level : Level) : SessionsFit (s.useGate level) := by
  by_cases acts : s.settings.mode = .gated
      ∧ ((s.time.run = .running ∧ level = .low) ∨ (s.time.run = .held ∧ level = .high))
  · obtain ⟨mode, ⟨run, rfl⟩ | ⟨run, rfl⟩⟩ := acts
    · rw [s.useGate_hold mode run]
      exact h.of_sessions rfl
    · rw [s.useGate_resume mode run]
      split
      · exact h.setTime _
      · exact (h.setTime _).reach 0
  · rw [s.useGate_other level acts]
    exact h

theorem SessionsFit.takeGateChange (level : Level) : SessionsFit (s.takeGateChange level) := by
  unfold State.takeGateChange
  split
  · exact h
  · next i _ =>
    have shown : SessionsFit { s.showLevel i level with time := { s.time with gate := .at_ level } } :=
      h.of_sessions rfl
    exact shown.useGate level

theorem SessionsFit.setSenseLine (i : Sense) (l : SenseLine) : SessionsFit (s.setSenseLine i l) := h.of_sessions rfl

theorem SessionsFit.takeEdge (i : Sense) (e : Edge) : SessionsFit (s.takeEdge i e) := by
  unfold State.takeEdge
  dsimp only
  split
  · exact h.setSenseLine i _
  · split
    · split
      · exact h.setSenseLine i _
      · exact (h.setSenseLine i _).makeRecord _ _ _
    · exact h.setSenseLine i _

theorem SessionsFit.runOutBudget : SessionsFit s.runOutBudget := by
  unfold State.runOutBudget
  split
  · split
    · exact (h.setTime _).boundary true
    · split
      · exact h.boundary false
      · exact h
  · exact h

end

end Sys2Proof.Machine
end

section
/-! SUPPORT. The queues of the sessions stay within their capacities under the command of every owning block, and those
of the ports under every row; with both, every step keeps the capacities (O4). -/

namespace Sys2Proof.Machine

/-! ## The commands of the owning blocks -/

section

variable {s : State} (h : SessionsFit s) (a : Agent) (bs : List Byte)
include h

theorem SessionsFit.takeOpen : SessionsFit (s.takeOpen a bs).1 := by
  unfold State.takeOpen
  dsimp only
  split
  · exact h
  · refine SessionsFit.notifyEach ?_ _ _ _
    exact h.setSession (h a)

theorem SessionsFit.takeRenew : SessionsFit (s.takeRenew a bs).1 := by
  unfold State.takeRenew
  dsimp only
  split
  · exact h
  split
  · exact h
  · exact h.setSession (h a)

theorem SessionsFit.takeClose : SessionsFit (s.takeClose a bs).1 := by
  unfold State.takeClose
  split
  · exact h.tearDownNow a _ _
  · unfold State.takeCloseAtBoundary
    dsimp only
    split
    · refine SessionsFit.leaveBallot ?_ _ a
      exact h.setSession (h a)
    · exact h.tearDownNow a _ _
  · exact h

theorem SessionsFit.takeReserve : SessionsFit (s.takeReserve a bs).1 := by
  unfold State.takeReserve
  dsimp only
  repeat' split
  all_goals exact h.of_sessions rfl

theorem SessionsFit.takeRelease : SessionsFit (s.takeRelease a bs).1 := by
  unfold State.takeRelease
  dsimp only
  repeat' split
  all_goals exact h.of_sessions rfl

/-- No list of entries is one of the queues. -/
theorem SessionsFit.setStaging (list : List Entry) : SessionsFit (s.setStaging a list) := h.setSession (h a)

theorem SessionsFit.takeStage : SessionsFit (s.takeStage a bs).1 := by
  unfold State.takeStage
  dsimp only
  repeat' split
  rotate_right
  · exact h.setStaging a _
  all_goals exact h

theorem SessionsFit.takeAmend : SessionsFit (s.takeAmend a bs).1 := by
  unfold State.takeAmend
  dsimp only
  split
  · exact h
  split
  case h_2 | h_3 => exact h
  split
  · exact h
  split
  · exact h
  split
  · exact h
  split
  · exact h
  · exact h.setStaging a _

theorem SessionsFit.takeWithdraw : SessionsFit (s.takeWithdraw a bs).1 := by
  unfold State.takeWithdraw
  dsimp only
  split
  · exact h
  split
  · exact h
  split
  · exact h
  · exact h.setStaging a _

theorem SessionsFit.takeClear : SessionsFit (s.takeClear a).1 := by
  unfold State.takeClear
  dsimp only
  split
  · exact h
  · exact h.setStaging a _

theorem SessionsFit.takeReadStaged : SessionsFit (s.takeReadStaged a bs).1 := by
  unfold State.takeReadStaged
  dsimp only
  split <;> exact h

theorem SessionsFit.takeReadActive : SessionsFit (s.takeReadActive bs).1 := by
  unfold State.takeReadActive
  split <;> exact h

theorem SessionsFit.exchange (n : Cycle) (way : Way) : SessionsFit (s.exchange n way a) := by
  refine SessionsFit.notifyEach ?_ _ _ _
  exact h.setSession (h a)

theorem SessionsFit.takeCommit : SessionsFit (s.takeCommit a).1 := by
  unfold State.takeCommit
  dsimp only
  split
  · exact h
  split
  · exact h
  split
  · exact h.setSession (h a)
  · exact h.exchange a _ _

theorem SessionsFit.takeAbandon : SessionsFit (s.takeAbandon a).1 := by
  unfold State.takeAbandon
  dsimp only
  split
  · exact h
  · exact h.setSession (h a)

theorem SessionsFit.takeForce : SessionsFit (s.takeForce a bs).1 := by
  unfold State.takeForce
  dsimp only
  repeat' split
  all_goals exact h.of_sessions rfl

theorem SessionsFit.takeUnforce : SessionsFit (s.takeUnforce a bs).1 := by
  unfold State.takeUnforce
  dsimp only
  repeat' split
  all_goals exact h.of_sessions rfl

theorem SessionsFit.takeSetSense : SessionsFit (s.takeSetSense a bs).1 := by
  unfold State.takeSetSense
  dsimp only
  repeat' split
  all_goals exact h.of_sessions rfl

theorem SessionsFit.takeArming (act : Action) : SessionsFit (s.takeArming a bs act).1 := by
  unfold State.takeArming
  dsimp only
  split
  · exact h
  split
  · exact h
  · rw [State.serveSense_eq]
    exact h.setSenseLine _ _

theorem SessionsFit.takeReadCaptures : SessionsFit (s.takeReadCaptures a bs).1 := by
  unfold State.takeReadCaptures
  dsimp only
  split
  · exact h
  · exact h.setSession ((h a).readCaptures _)

theorem SessionsFit.takeReadNotices : SessionsFit (s.takeReadNotices a bs).1 := by
  unfold State.takeReadNotices
  dsimp only
  split
  · exact h
  split
  · next told =>
    simp only [Bool.and_eq_true, Bool.not_eq_true', List.isEmpty_eq_false_iff] at told
    exact h.setSession ((h a).readNotices_lost told.1 _)
  · exact h.setSession ((h a).readNotices _)

theorem SessionsFit.acceptProposal (b : OpenBallot) : SessionsFit (s.acceptProposal b) := by
  have opened : SessionsFit (s.openSlot b) := h.of_sessions rfl
  unfold State.acceptProposal
  dsimp only
  split
  · exact (opened.passBallot _ b).applyIfIdle
  · exact opened.notifyEach _ _ _

theorem SessionsFit.takePropose : SessionsFit (s.takePropose a bs).1 := by
  unfold State.takePropose State.proposeOnEmpty
  dsimp only
  repeat' split
  rotate_right
  · exact h.acceptProposal _
  all_goals exact h

theorem SessionsFit.takeVote : SessionsFit (s.takeVote a bs).1 := by
  unfold State.takeVote State.voteOn State.acceptVote
  dsimp only
  split
  · exact h
  split
  · exact h
  split
  · exact h
  split
  · exact h
  split
  · exact (h.holdOrPass _ _).applyIfIdle
  · exact h.failBallot _ _ _

theorem SessionsFit.takeRetract : SessionsFit (s.takeRetract a bs).1 := by
  unfold State.takeRetract
  split
  · exact h
  split
  · exact h
  · exact h.failBallot _ _ _

theorem SessionsFit.take (c : Command) : SessionsFit (s.take a bs c).1 := by
  cases c
  case status | readSettings | readBallot => exact h
  case openSession => exact h.takeOpen a bs
  case close => exact h.takeClose a bs
  case renew => exact h.takeRenew a bs
  case reserve => exact h.takeReserve a bs
  case release => exact h.takeRelease a bs
  case stageEntry => exact h.takeStage a bs
  case amendEntry => exact h.takeAmend a bs
  case withdrawEntry => exact h.takeWithdraw a bs
  case clearStaging => exact h.takeClear a
  case readStaged => exact h.takeReadStaged a bs
  case readActive => exact h.takeReadActive bs
  case commit => exact h.takeCommit a
  case abandon => exact h.takeAbandon a
  case forceLine => exact h.takeForce a bs
  case unforceLine => exact h.takeUnforce a bs
  case setSense => exact h.takeSetSense a bs
  case armSense => exact h.takeArming a bs .arm
  case disarmSense => exact h.takeArming a bs .disarm
  case readCaptures => exact h.takeReadCaptures a bs
  case propose => exact h.takePropose a bs
  case vote => exact h.takeVote a bs
  case retract => exact h.takeRetract a bs
  case readNotices => exact h.takeReadNotices a bs

end

theorem sessionsFit_reset : SessionsFit State.reset := by
  intro a
  rw [State.reset_session]
  exact Session.fit_vacant .closed 0

theorem stepInvariant_sessionsFit : StepInvariant SessionsFit where
  blocks h same := h.of_sessions (congrArg Blocks.sessions same)
  reset := sessionsFit_reset
  renewLease a h := h.renewLease a
  take a bs c _ h := h.take a bs c
  resetSession a h := h.resetSession a
  advanceCount h := h.advanceCount
  takeTriggerEdge h := h.takeTriggerEdge
  takeGateChange level h := h.takeGateChange level
  takeEdge i e h := h.takeEdge i e
  lowerLeases h := h.lowerLeases
  expireLease a h := h.expireLease a
  expireDeadline h := h.expireDeadline
  runOutBudget h := h.runOutBudget
  endPulse d h := by
    unfold State.endPulse
    split <;> exact h.of_sessions rfl
  endGuard d h := by
    unfold State.endGuard
    split <;> exact h.of_sessions rfl
  sampleLines levels h := h.of_sessions rfl
  tickDivider h := by
    unfold State.tickDivider
    repeat' split
    all_goals exact h.of_sessions rfl
  tickLease h := by
    unfold State.tickLease
    split <;> exact h.of_sessions rfl

/-! ## The response queue of one port (R161, R165, R167) -/

@[simp] theorem Port.sampled_responses (attention : Bool) (x : Port) :
    (x.sampled attention).responses = x.responses := by
  rw [Port.sampled_eq]
  split
  · rfl
  · split <;> rfl

@[simp] theorem Port.start_responses (attention : Bool) (x : Port) : (x.start attention).responses = x.responses := by
  unfold Port.start
  split <;> rfl

theorem Port.toCommand_responses {attention : Bool} {x y : Port} (ready : x.toCommand attention = some y) :
    y.responses = x.responses := by
  unfold Port.toCommand at ready
  split at ready <;> cases ready <;> rfl

@[simp] theorem Port.takeByte_responses (v : Byte) (x : Port) : (x.takeByte v).responses = x.responses := by
  unfold Port.takeByte
  dsimp only
  repeat' split
  all_goals rfl

/-- A fetch removes a response at most (R167). -/
theorem Port.sendByte_responses (position : Nat) (x : Port) :
    (x.sendByte position).responses.length ≤ x.responses.length := by
  unfold Port.sendByte
  split
  · exact le_refl _
  · next r rest held =>
    dsimp only
    split
    · exact le_refl _
    · rw [held]
      exact Nat.le_succ _

/-! ## The response queues of the ports -/

/-- No port holds more than 4 responses (R161). -/
def PortsFit (s : State) : Prop := ∀ p, (s.port p).responses.length ≤ 4

theorem queuesFit_iff (s : State) : QueuesFit s ↔ PortsFit s ∧ SessionsFit s := by
  constructor
  · intro h
    exact ⟨h.responses, fun a =>
      ⟨h.notices a, h.lostNotices a, h.captures a, h.lostSense a, h.lostMarker a⟩⟩
  · rintro ⟨ports, sessions⟩
    exact ⟨ports, fun a => (sessions a).notices, fun a => (sessions a).captures, fun a => (sessions a).lostNotices,
      fun a => (sessions a).lostSense, fun a => (sessions a).lostMarker⟩

section

variable {s : State} (h : PortsFit s)
include h

/-- No operation of a block is on a port. -/
theorem PortsFit.of_shell {t : State} (same : t.shell = s.shell) : PortsFit t := by
  intro p
  rw [State.port, State.ports_of_shell same]
  exact h p

theorem PortsFit.setPort {p : Agent} {x : Port} (fit : x.responses.length ≤ 4) : PortsFit (s.setPort p x) := by
  intro q
  rw [State.port_setPort]
  split
  · exact fit
  · exact h q

theorem PortsFit.samplePort (p : Agent) : PortsFit (s.samplePort p) := by
  rw [State.samplePort_eq]
  exact h.setPort ((congrArg List.length (Port.sampled_responses _ _)).trans_le (h p))

theorem PortsFit.samplePorts : PortsFit s.samplePorts :=
  List.foldlRecOn _ _ h fun _ fits p _ => fits.samplePort p

theorem PortsFit.selectPort (p : Agent) : PortsFit (s.selectPort p) := by
  unfold State.selectPort
  split
  · exact h.setPort ((congrArg List.length (Port.start_responses _ _)).trans_le (h p))
  · exact h.setPort (h p)

theorem PortsFit.deselectPort (p : Agent) : PortsFit (s.deselectPort p) := by
  unfold State.deselectPort
  split <;> exact h.setPort (h p)

theorem PortsFit.releaseReset : PortsFit s.releaseReset := by
  unfold State.releaseReset
  split
  · intro p
    rw [State.port, Bank.read_build]
    exact h p
  · exact h

theorem PortsFit.settle (p : Agent) : PortsFit (s.settle p) := h.setPort (h p)

theorem PortsFit.latch (p : Agent) (e : PortError) : PortsFit (s.latch p e) := h.setPort (h p)

/-- A response joins where the queue has room for it. -/
theorem PortsFit.respond {p : Agent} (room : (s.port p).responses.length < 4) (r : Response) :
    PortsFit (s.respond p r) := h.setPort (by simpa using room)

/-- A frame is executed only where its response has room (R165). -/
theorem PortsFit.deliverFrame (p : Agent) (code tag : Byte) (bs : List Byte) :
    PortsFit (s.deliverFrame p code tag bs) := by
  unfold State.deliverFrame
  dsimp only
  split
  · exact (h.settle p).latch p _
  split
  · exact (h.settle p).latch p _
  · next room =>
    have shell : (((s.settle p).renewLease p).answer p code bs).1.shell = (s.settle p).shell :=
      State.answer_shell _ p code bs
    refine ((h.settle p).of_shell shell).respond ?_ _
    rw [State.port, State.ports_of_shell shell]
    show ((s.settle p).port p).responses.length < 4
    simpa [State.settle, Config.responseCapacity] using room

theorem PortsFit.takeFrame (p : Agent) (code tag : Byte) (bs : List Byte) : PortsFit (s.takeFrame p code tag bs) := by
  unfold State.takeFrame State.offerFrame
  split
  · split
    · exact (h.samplePort p).deliverFrame p code tag bs
    · exact h.samplePort p
  · exact h

theorem PortsFit.useByte (p : Agent) (v : Byte) : PortsFit (s.useByte p v) := by
  unfold State.useByte
  split
  · have cleared : PortsFit (s.setPort p (s.port p).clear) := h.setPort (Nat.zero_le _)
    exact cleared.of_shell (State.resetSession_shell _ p)
  · exact h.setPort ((congrArg List.length (Port.takeByte_responses v _)).trans_le (h p))

theorem PortsFit.transactionByte (p : Agent) (v : Byte) : PortsFit (s.transactionByte p v) := by
  have sampled := h.samplePort p
  unfold State.transactionByte State.chooseAction
  split
  · split
    · next x ready =>
      have ready : PortsFit ((s.samplePort p).setPort p x) :=
        sampled.setPort ((congrArg List.length (Port.toCommand_responses ready)).trans_le (sampled p))
      exact ready.useByte p v
    · exact sampled
  · exact h

theorem PortsFit.receiveByte (p : Agent) (frame : List Byte) (v : Byte) : PortsFit (s.receiveByte p frame v) := by
  have joined : PortsFit (s.setPort p
      { s.port p with transaction := .receiving (frame ++ [v]), shiftedOut := some filler }) := h.setPort (h p)
  unfold State.receiveByte
  dsimp only
  split
  · exact joined
  split
  · exact (joined.settle p).latch p _
  split
  · exact joined
  · exact joined.deliverFrame p _ _ _

theorem PortsFit.moveByte (p : Agent) (v : Byte) : PortsFit (s.moveByte p v) := by
  unfold State.moveByte
  cases (s.port p).transaction with
  | idle => exact h
  | ignored => exact h
  | command => exact h.useByte p v
  | receiving frame => exact h.receiveByte p frame v
  | sending k => exact h.setPort ((Port.sendByte_responses k _).trans (h p))
  | status b => exact h.setPort (h p)
  | marker k => exact h.setPort (h p)
  | done => exact h.setPort (h p)

theorem PortsFit.shiftByte (p : Agent) (v : Byte) : PortsFit (s.shiftByte p v) := by
  unfold State.shiftByte
  split
  · exact (h.samplePort p).moveByte p v
  · exact h

end

/-! ## No event is on a port -/

section

variable (s : State)

@[simp] theorem State.lowerLeases_shell : s.lowerLeases.shell = s.shell := rfl

@[simp] theorem State.expire_shell (e : Event) : (s.expire e).shell = s.shell := by
  cases e
  case leaseExpiry a => exact s.expireLease_shell a
  case deadlineExpiry => exact s.expireDeadline_shell
  all_goals rfl

/-- What no event that is taken touches, events taken one after another leave as it was. -/
theorem State.takeAll_shell {take : Event → State → State} (untaken : State → List Event)
    (keeps : ∀ e t, (take e t).shell = t.shell) (fuel : Nat) : (takeAll take untaken fuel s).shell = s.shell :=
  takeAll_keeps (P := fun t => t.shell = s.shell) untaken (fun _ _ same => same)
    (fun e t same => (keeps e t).trans same) fuel rfl

@[simp] theorem State.advanceLease_shell : s.advanceLease.shell = s.shell :=
  s.takeAll_shell State.expiries (fun e t => t.expire_shell e) 5

@[simp] theorem State.takeEvent_shell (e : Event) : (s.takeEvent e).shell = s.shell := by
  unfold State.takeEvent
  cases e
  case countAdvance => exact State.advanceCount_shell _
  case triggerEdge => exact State.takeTriggerEdge_shell _
  case gateChange level => exact State.takeGateChange_shell _ level
  case captureEdge i edge => exact State.takeEdge_shell _ i edge
  case leaseClockAdvance => exact State.advanceLease_shell _
  case leaseExpiry a => exact State.expireLease_shell _ a
  case deadlineExpiry => exact State.expireDeadline_shell _

@[simp] theorem State.runOutBudget_shell : s.runOutBudget.shell = s.shell := by
  unfold State.runOutBudget
  split
  · split
    · exact State.boundary_shell _ true
    · split
      · exact s.boundary_shell false
      · rfl
  · rfl

@[simp] theorem State.endPulse_shell (d : Drive) : (s.endPulse d).shell = s.shell := by
  unfold State.endPulse
  split <;> rfl

@[simp] theorem State.endGuard_shell (d : Drive) : (s.endGuard d).shell = s.shell := by
  unfold State.endGuard
  split <;> rfl

@[simp] theorem State.sampleLines_shell (levels : Bank Level 8) : (s.sampleLines levels).shell = s.shell := rfl

@[simp] theorem State.tickDivider_shell : s.tickDivider.shell = s.shell := by
  unfold State.tickDivider
  repeat' split
  all_goals rfl

@[simp] theorem State.tickLease_shell : s.tickLease.shell = s.shell := by
  unfold State.tickLease
  split <;> rfl

end

/-! ## Every step -/

section

variable {s : State} (h : PortsFit s)
include h

theorem PortsFit.refclkPeriod (levels : Bank Level 8) : PortsFit (s.refclkPeriod levels) := by
  have left : PortsFit s.takeLeft :=
    h.of_shell (s.takeAll_shell State.untaken (fun e t => t.takeEvent_shell e) _)
  unfold State.refclkPeriod
  split
  · refine left.samplePorts.of_shell ?_
    rw [State.tickLease_shell, State.tickDivider_shell, State.sampleLines_shell]
  · exact h

/-- An event that is taken while the part is live leaves the ports alone. -/
theorem PortsFit.ite_live {t : State} (same : t.shell = s.shell) : PortsFit (if s.live then t else s) := by
  split
  · exact h.of_shell same
  · exact h

theorem PortsFit.exec_frame {i : Instr} {f : Frame} (frame : i.frame? = some f) {t : State}
    (row : exec i s = .next t) : PortsFit t := by
  rw [Machine.exec_frame frame] at row
  cases row
  exact h.takeFrame _ _ _ _

theorem PortsFit.exec {i : Instr} {t : State} (row : exec i s = .next t) : PortsFit t := by
  cases i
  case transactionStart p => cases row; exact h.selectPort p
  case transactionEnd p => cases row; exact h.deselectPort p
  case send p => cases row; exact h.transactionByte p _
  case fetch p => cases row; exact h.transactionByte p _
  case peek p v => cases row; exact h.transactionByte p v
  case portReset p => cases row; exact h.transactionByte p _
  case byteShifted p v => cases row; exact h.shiftByte p v
  case deviceReset =>
    cases row
    intro p
    rw [State.port, State.deviceReset, Bank.read_build]
    exact Nat.zero_le _
  case resetRelease => cases row; exact h.releaseReset
  case refclkStop => cases row; exact h
  case refclkResume => cases row; exact h
  case refclkPeriod levels => cases row; exact h.refclkPeriod levels
  case countAdvance => cases row; exact h.ite_live (s.takeEvent_shell _)
  case triggerEdge => cases row; exact h.ite_live (s.takeEvent_shell _)
  case gateChange level => cases row; exact h.ite_live (s.takeEvent_shell _)
  case captureEdge i e => cases row; exact h.ite_live (s.takeEvent_shell _)
  case leaseClockAdvance => cases row; exact h.ite_live (s.takeEvent_shell _)
  case leaseExpiry a => cases row; exact h.ite_live (s.takeEvent_shell _)
  case deadlineExpiry => cases row; exact h.ite_live (s.takeEvent_shell _)
  case pulseEnd d => cases row; exact h.ite_live (s.endPulse_shell d)
  case guardEnd d => cases row; exact h.ite_live (s.endGuard_shell d)
  case budgetRunOut => cases row; exact h.ite_live s.runOutBudget_shell
  all_goals exact h.exec_frame rfl row

theorem PortsFit.step {t : State} (stepped : step s = .next t) : PortsFit t := by
  unfold Machine.step at stepped
  split at stepped
  · cases stepped
    exact h
  · next c rest _ =>
    have popped : PortsFit { s with pending := rest } := h
    exact popped.exec stepped

end

/-- Settles O4: every operation on the blocks keeps the queues of the sessions within their capacities, and every row
those of the ports. -/
theorem stepKeepsQueueCapacities : Obligations.StepKeepsQueueCapacities := by
  unfold Obligations.StepKeepsQueueCapacities
  intro s t h stepped
  obtain ⟨ports, sessions⟩ := (queuesFit_iff s).1 h
  exact (queuesFit_iff t).2 ⟨ports.step stepped, stepInvariant_sessionsFit.step sessions stepped⟩

end Sys2Proof.Machine
end

section
/-! SUPPORT. The commands on sense lines (R120, R121, R130), filtered edges (R123), and records that join a capture
queue or are lost (R127 to R129): O39 to O43. -/

namespace Sys2Proof.Machine

/-! ## The encodings of SET_SENSE (section 11.2) -/

theorem edgeSelectOf_eq_some_iff {k : Nat} {e : EdgeSelect} : edgeSelectOf k = some e ↔
    (k = 1 ∧ e = .rising) ∨ (k = 2 ∧ e = .falling) ∨ (k = 3 ∧ e = .both) := by
  match k with
  | 0 | 1 | 2 | 3 => simp [edgeSelectOf, eq_comm]
  | k + 4 => simp [edgeSelectOf]

theorem prescaleOf_eq_some_iff {k n : Nat} : prescaleOf k = some n ↔ n = k ∧ (k = 1 ∨ k = 2 ∨ k = 4 ∨ k = 8) := by
  unfold prescaleOf
  split
  · next listed => simp [listed, eq_comm]
  · next other => simp [other]

/-! ## The owning block on one sense line -/

section

variable {s : State} {p : Agent} {i : Sense}

/-- The line number of a sense line is read back. -/
theorem indexBelow_sense (i : Sense) (bs : List Byte) : indexBelow 8 (byteAt (byte i.val :: bs) 0) = some i :=
  indexBelow_eq_some_iff.2 (toNat_byte (by omega))

theorem senseSetupOf_some {b1 b2 b3 : Byte} {e : EdgeSelect} {k : Nat} (select : edgeSelectOf b1.toNat = some e)
    (prescale : prescaleOf b2.toNat = some k) (filter : b3.toNat ≤ 15) :
    senseSetupOf [byte i.val, b1, b2, b3] = some ⟨i, e, k, b3.toNat⟩ := by
  have edge : edgeSelectOf (byteAt [byte i.val, b1, b2, b3] 1) = some e := select
  have factor : prescaleOf (byteAt [byte i.val, b1, b2, b3] 2) = some k := prescale
  unfold senseSetupOf
  rw [indexBelow_sense, edge, factor]
  exact if_pos filter

theorem senseSetupOf_none {c0 c1 c2 c3 : Byte} (bad : 8 ≤ c0.toNat ∨ edgeSelectOf c1.toNat = none
    ∨ prescaleOf c2.toNat = none ∨ 16 ≤ c3.toNat) : senseSetupOf [c0, c1, c2, c3] = none := by
  unfold senseSetupOf
  split
  · next j e k index select prescale =>
    have line : c0.toNat = j.val := indexBelow_eq_some_iff.1 index
    have select : edgeSelectOf c1.toNat = some e := select
    have prescale : prescaleOf c2.toNat = some k := prescale
    have large : 16 ≤ c3.toNat := by
      rcases bad with high | none | none | large
      · omega
      · rw [select] at none
        cases none
      · rw [prescale] at none
        cases none
      · exact large
    exact if_neg (not_le.2 large)
  all_goals rfl

/-- SET_SENSE on an owned line (R120). -/
theorem State.takeSetSense_owned {bs : List Byte} {x : SenseSetup} (read : senseSetupOf bs = some x)
    (own : s.senseOwner.read x.line = some p) : s.takeSetSense p bs =
    ((s.absorbEdge x.line).setSenseLine x.line ((s.senseLine x.line).setup x.select x.prescale x.filter),
      ⟨.ok, .senseReport ((s.senseLine x.line).setup x.select x.prescale x.filter) (s.session p).captures.length⟩) := by
  simp [State.takeSetSense, read, State.ownsSense, own, State.senseReport, State.absorbEdge, State.session]

theorem State.takeSetSense_foreign {bs : List Byte} {x : SenseSetup} (read : senseSetupOf bs = some x)
    (other : s.senseOwner.read x.line ≠ some p) :
    s.takeSetSense p bs = (s, ⟨.lineNotOwned, .lineOf (.sense x.line)⟩) := by
  simp [State.takeSetSense, read, State.ownsSense, other]

theorem State.takeSetSense_unread {bs : List Byte} (unread : senseSetupOf bs = none) :
    s.takeSetSense p bs = (s, refuse .badArgument) := by
  rw [State.takeSetSense, unread]

/-- ARM_SENSE and DISARM_SENSE on an owned line (R121). -/
theorem State.takeArming_owned (act : Action) (own : s.senseOwner.read i = some p) : s.takeArming p [byte i.val] act =
    (s.setSenseLine i ((s.senseLine i).served act),
      ⟨.ok, .senseReport ((s.senseLine i).served act) (s.session p).captures.length⟩) := by
  unfold State.takeArming
  rw [indexBelow_sense]
  simp [State.ownsSense, own, State.senseReport, State.serveSense_eq]

theorem State.takeArming_foreign (act : Action) (other : s.senseOwner.read i ≠ some p) :
    s.takeArming p [byte i.val] act = (s, refuse .lineNotOwned) := by
  unfold State.takeArming
  rw [indexBelow_sense]
  simp [State.ownsSense, other]

theorem State.takeArming_unread (act : Action) {b : Byte} (bad : 8 ≤ b.toNat) :
    s.takeArming p [b] act = (s, refuse .badArgument) := by
  unfold State.takeArming
  rw [show indexBelow 8 (byteAt [b] 0) = none from indexBelow_eq_none_iff.2 bad]

/-- READ_CAPTURES with a maximum in range (R130). -/
theorem State.takeReadCaptures_some {k : Byte} (low : 1 ≤ k.toNat) (high : k.toNat ≤ 6) : s.takeReadCaptures p [k] =
    (s.setSession p
      { s.session p with
        captures := (s.session p).captures.drop k.toNat
        lostSense := Bank.fill 8 0
        lostMarker := 0
        overrun := false },
      ⟨.ok, .captures ((s.session p).captures.length - k.toNat) (s.session p).lostSense (s.session p).lostMarker
        (s.session p).overrun ((s.session p).captures.take k.toNat)⟩) := by
  have inRange : ¬ (byteAt [k] 0 = 0 ∨ 6 < byteAt [k] 0) := by
    change ¬ (k.toNat = 0 ∨ 6 < k.toNat)
    omega
  unfold State.takeReadCaptures
  dsimp only
  rw [if_neg inRange, List.length_drop]
  rfl

theorem State.takeReadCaptures_bad {k : Byte} (bad : k.toNat = 0 ∨ 7 ≤ k.toNat) :
    s.takeReadCaptures p [k] = (s, refuse .badArgument) := by
  unfold State.takeReadCaptures
  exact if_pos bad

end

/-! ## SET_SENSE, ARM_SENSE, DISARM_SENSE and READ_CAPTURES -/

/-- Settles O39: the setup as SET_SENSE reads it, and the line as R120 leaves it. -/
theorem setSenseSetsUpTheLine : Obligations.SetSenseSetsUpTheLine := by
  unfold Obligations.SetSenseSetsUpTheLine
  refine ⟨fun k e => edgeSelectOf_eq_some_iff, fun k n => prescaleOf_eq_some_iff, ?_⟩
  rintro p tag b1 b2 b3 i e k l' s accepts openState select prescale filter rfl
  have read := senseSetupOf_some (i := i) select prescale filter
  have answers {bs : List Byte} {t : State} {r : Reply} (permitted : bs.length = 4)
      (takes : ((s.settle p).renewLease p).takeSetSense p bs = (t, r)) :
      exec (.setSense p tag bs) s = .next (t.respond p ⟨tag, 0x11, r.status, r.data⟩) :=
    exec_answers_open (c := .setSense) rfl accepts openState (List.mem_singleton.2 permitted) (by decide) takes
  refine ⟨fun own => ?_, fun other => answers rfl (State.takeSetSense_foreign read other),
    fun c0 c1 c2 c3 bad => answers rfl (State.takeSetSense_unread (senseSetupOf_none bad))⟩
  rw [answers rfl (State.takeSetSense_owned read own), State.settled_session_self, Session.renew_captures]
  rfl

/-- Settles O40: arming and disarming write the line that R121 gives. -/
theorem armingClearsTheCounter : Obligations.ArmingClearsTheCounter := by
  unfold Obligations.ArmingClearsTheCounter
  intro p tag i s accepts openState
  have arms {b : Byte} {t : State} {r : Reply} (takes : ((s.settle p).renewLease p).takeArming p [b] .arm = (t, r)) :
      exec (.armSense p tag [b]) s = .next (t.respond p ⟨tag, 0x12, r.status, r.data⟩) :=
    exec_answers_open (c := .armSense) rfl accepts openState (List.mem_singleton.2 rfl) (by decide) takes
  have disarms {b : Byte} {t : State} {r : Reply}
      (takes : ((s.settle p).renewLease p).takeArming p [b] .disarm = (t, r)) :
      exec (.disarmSense p tag [b]) s = .next (t.respond p ⟨tag, 0x13, r.status, r.data⟩) :=
    exec_answers_open (c := .disarmSense) rfl accepts openState (List.mem_singleton.2 rfl) (by decide) takes
  refine ⟨fun own => ?_, fun other => ?_, fun b bad => ?_⟩
  · rw [arms (State.takeArming_owned .arm own), disarms (State.takeArming_owned .disarm own),
      State.settled_session_self, Session.renew_captures]
    exact ⟨rfl, rfl⟩
  · exact ⟨arms (State.takeArming_foreign .arm other), disarms (State.takeArming_foreign .disarm other)⟩
  · exact ⟨arms (State.takeArming_unread .arm bad), disarms (State.takeArming_unread .disarm bad)⟩

/-- Settles O41: the queue is cut at the maximum, on the session as the renewed lease leaves it. -/
theorem readCapturesTakesTheOldest : Obligations.ReadCapturesTakesTheOldest := by
  unfold Obligations.ReadCapturesTakesTheOldest
  intro p tag k s accepts present
  have answers {t : State} {r : Reply} (takes : ((s.settle p).renewLease p).takeReadCaptures p [k] = (t, r)) :
      exec (.readCaptures p tag [k]) s = .next (t.respond p ⟨tag, 0x14, r.status, r.data⟩) :=
    exec_answers (c := .readCaptures) rfl accepts (List.mem_singleton.2 rfl)
      (AdmissionRow.whilePresent_refusal present) takes
  refine ⟨fun low high => ?_, fun bad => answers (State.takeReadCaptures_bad bad)⟩
  rw [answers (State.takeReadCaptures_some low high)]
  simp only [State.settled_session_self, Session.renew_captures, Session.renew_lostSense, Session.renew_lostMarker,
    Session.renew_overrun]
  rfl

/-! ## Filtered edges (R123) -/

theorem State.timebaseIdle_eq (s : State) : s.timebaseIdle = (s.time.run == .stopped || s.time.run == .armed) := by
  unfold State.timebaseIdle
  cases s.time.run <;> rfl

theorem exec_captureEdge {s : State} (live : s.live = true) (i : Sense) (e : Edge) :
    exec (.captureEdge i e) s = .next
      (({ s with arisen := s.arisen.filter fun f => f != Event.captureEdge i e }).takeEdge i e) :=
  congrArg _ (if_pos live)

section

variable {s : State} {i : Sense} {e : Edge}

/-- The line after a filtered edge, as far as its capture path (R119; log entry 7). -/
def SenseLine.shown (e : Edge) (l : SenseLine) : SenseLine :=
  { l with path := ⟨edgeLevel e, 0⟩, sample := edgeLevel e }

/-- An edge that is discarded (R123). -/
theorem State.takeEdge_discarded (idle : s.senseOwner.read i = none ∨ (s.senseLine i).armed = false
    ∨ (s.senseLine i).select.selects e = false) : s.takeEdge i e = s.setSenseLine i ((s.senseLine i).shown e) := by
  unfold State.takeEdge
  cases owner : s.senseOwner.read i with
  | none => rfl
  | some a =>
    have ignored : ¬ ((s.senseLine i).armed && (s.senseLine i).select.selects e) = true := by
      rcases idle with unowned | disarmed | other
      · rw [owner] at unowned
        cases unowned
      · simp [disarmed]
      · simp [other]
    exact if_neg ignored

/-- An edge that counts toward the prescale, or completes it and makes a record (R123, R124). -/
theorem State.takeEdge_counted {a : Agent} (owner : s.senseOwner.read i = some a)
    (armed : (s.senseLine i).armed = true) (selected : (s.senseLine i).select.selects e = true) :
    s.takeEdge i e =
      if (s.senseLine i).counter + 1 < (s.senseLine i).prescale then
        s.setSenseLine i { (s.senseLine i).shown e with counter := (s.senseLine i).counter + 1 }
      else
        (s.setSenseLine i { (s.senseLine i).shown e with counter := 0 }).makeRecord a (.edge i e s.timebaseIdle)
          s.time.count := by
  unfold State.takeEdge
  rw [owner]
  exact if_pos (by simp [armed, selected])

end

/-- Settles O42: the row takes the edge, which is discarded, counted or recorded. -/
theorem captureEdgeCountsTowardThePrescale : Obligations.CaptureEdgeCountsTowardThePrescale := by
  unfold Obligations.CaptureEdgeCountsTowardThePrescale
  rintro i e l s s' live rfl rfl
  rw [exec_captureEdge live, ← s.timebaseIdle_eq]
  refine ⟨fun idle => congrArg _ (State.takeEdge_discarded idle), fun a owner armed selected => ?_⟩
  have counted := State.takeEdge_counted (s := { s with arisen := s.arisen.filter fun f => f != Event.captureEdge i e })
    owner armed selected
  exact ⟨fun below => congrArg _ (counted.trans (if_pos below)),
    fun completes => congrArg _ (counted.trans (if_neg (not_lt.2 completes)))⟩

/-! ## Records (R127 to R129) -/

theorem Session.countLoss_eq (q : Session) (kind : RecordKind) : q.countLoss kind.source =
    { q with
      lostSense := match kind with
        | .edge i _ _ => q.lostSense.write i (min 255 (q.lostSense.read i + 1))
        | .mark _ => q.lostSense
      lostMarker := match kind with
        | .edge _ _ _ => q.lostMarker
        | .mark _ => min 255 (q.lostMarker + 1) } := by
  cases kind <;> rfl

section

variable (s : State) (a : Agent) (kind : RecordKind) (count : Nat)

/-- A record joins a queue with room; the first one is told (R126, R127). -/
theorem State.makeRecord_room (room : (s.session a).captures.length < 32) : s.makeRecord a kind count =
    if (s.session a).captures.isEmpty then
      (s.setSession a
        { s.session a with
          captures := (s.session a).captures ++ [⟨kind, (s.session a).sequence, s.time.cycle, count⟩]
          sequence := (s.session a).sequence + 1 }).notify s.time.cycle (.captureReady (s.session a).sequence kind) a
    else s.setSession a
      { s.session a with
        captures := (s.session a).captures ++ [⟨kind, (s.session a).sequence, s.time.cycle, count⟩]
        sequence := (s.session a).sequence + 1 } := if_pos room

/-- A record that meets a full queue is lost; the first one is told (R128, R129). -/
theorem State.makeRecord_full (full : 32 ≤ (s.session a).captures.length) : s.makeRecord a kind count =
    if (s.session a).overrun then s.setSession a
      { (s.session a).countLoss kind.source with
        sequence := (s.session a).sequenceAfterDrop, overrun := true }
    else
      (s.setSession a
        { (s.session a).countLoss kind.source with
          sequence := (s.session a).sequenceAfterDrop, overrun := true }).notify s.time.cycle
            (.captureOverrun kind.source (s.session a).sequence) a := if_neg (not_lt.2 full)

end

/-- Settles O43: the record joins or is lost, and the session alone is told. -/
theorem recordsJoinOrAreCounted : Obligations.RecordsJoinOrAreCounted := by
  unfold Obligations.RecordsJoinOrAreCounted
  rintro a kind count q s rfl present
  refine ⟨fun empty => ?_, fun some room => ?_, fun newest full last => ?_⟩
  · have first : (s.session a).captures.isEmpty = true := by simp [empty]
    rw [s.makeRecord_room a kind count (by simp [empty]), if_pos first, empty]
    refine State.setSession_notify ?_ _ _
    exact present
  · rw [s.makeRecord_room a kind count room, if_neg (by simpa using some)]
  · have sequence : (s.session a).sequenceAfterDrop =
        if (s.session a).sequence + 1 = newest.sequence then (s.session a).sequence
        else (s.session a).sequence + 1 := by
      rw [Session.sequenceAfterDrop, last]
    rw [s.makeRecord_full a kind count full, Session.countLoss_eq, sequence]
    dsimp only
    by_cases told : (s.session a).overrun = true
    · exact (if_pos told).trans (congrArg (s.setSession a) (if_pos told).symm)
    · rw [if_neg told, if_neg told]
      refine State.setSession_notify ?_ _ _
      exact present

end Sys2Proof.Machine
end

section
/-! SUPPORT. Ballots that close (R142, R143, R146, R147): what is told and what the slot holds then, leaving a ballot,
RETRACT and VOTE, and the statements on them (O20, O50, O47). -/

namespace Sys2Proof.Machine

/-! ## Leaving a ballot (R146) -/

theorem Bank.read_write_false_iff {n : Nat} {b : Bank Bool n} {i j : Fin n} :
    (b.write i false).read j = true ↔ j ≠ i ∧ b.read j = true := by
  rw [Bank.read_write]
  split <;> simp_all

section

variable {s : State}

/-- A ballot that passes is told to its proposer and its electors, and waits in the slot (R147). -/
theorem State.passBallot_eq (n : Cycle) (b : OpenBallot) : s.passBallot n b =
    { s with
      ballot := ⟨s.ballot.number, .passed b.proposer b.proposal, some ⟨s.ballot.number, .passed⟩⟩
      sessions := Bank.build fun a =>
        if (a = b.proposer ∨ b.electorate.read a = true) ∧ (s.session a).state.present = true then
          (s.session a).offer ⟨.ballotClosed s.ballot.number .passed, n⟩
        else s.session a } := by
  unfold State.passBallot State.notifyClosed State.notifyEach
  simp only [Bool.and_eq_true, Bool.or_eq_true, beq_iff_eq]

section

variable (n : Cycle) {a : Agent} {b : OpenBallot} (slot : s.ballot.slot = .openSlot b)
include slot

theorem State.leaveBallot_of_proposer (own : b.proposer = a) :
    s.leaveBallot n a = s.failBallot n b .proposerGone := by
  rw [State.leaveBallot, slot]
  exact if_pos own

theorem State.leaveBallot_of_other (other : b.proposer ≠ a) (outside : b.electorate.read a = false) :
    s.leaveBallot n a = s := by
  simp [State.leaveBallot, slot, other, outside]

/-- An elector leaves, and others are still to be waited for. -/
theorem State.leaveBallot_narrows (other : b.proposer ≠ a) (elector : b.electorate.read a = true)
    (waits : b.accepted.write a false ≠ b.electorate.write a false) :
    s.leaveBallot n a = { s with
      ballot := { s.ballot with slot := .openSlot { b with
          electorate := b.electorate.write a false
          accepted := b.accepted.write a false } } } := by
  simp [State.leaveBallot, slot, other, elector, State.holdOrPass, waits]

end

/-- Settles O20: by what the agent is to the ballot that stands. -/
theorem leavingEndsOrNarrowsTheBallot : Obligations.LeavingEndsOrNarrowsTheBallot := by
  unfold Obligations.LeavingEndsOrNarrowsTheBallot
  refine fun n a s => ⟨fun b slot own => ?fails,
    fun b slot other elector => ⟨fun complete => ?passes, State.leaveBallot_narrows n slot other elector⟩,
    fun b slot => State.leaveBallot_of_other n slot, State.leaveBallot_of_not_open n a⟩
  case fails => rw [State.leaveBallot_of_proposer n slot own, State.failBallot_eq]
  case passes =>
    rw [State.leaveBallot_passes n slot other elector complete, State.passBallot_eq]
    simp only [Bank.read_write_false_iff]

/-! ## The ballot that a number names (check 2 of R142, R143) -/

theorem State.openNumbered_eq_some_iff {number : Half} {b : OpenBallot} :
    s.openNumbered number.toNat = some b ↔ s.ballot.slot = .openSlot b ∧ s.ballot.number = number := by
  unfold State.openNumbered
  split
  · next c slot => simp [slot, BitVec.toNat_inj, and_comm]
  · next slot => simp [slot]
  · next slot => simp [slot]

theorem State.openNumbered_eq_none {number : Half}
    (stale : (∀ b, s.ballot.slot ≠ .openSlot b) ∨ s.ballot.number ≠ number) :
    s.openNumbered number.toNat = none := by
  rw [Option.eq_none_iff_forall_ne_some]
  intro b named
  obtain ⟨slot, same⟩ := State.openNumbered_eq_some_iff.1 named
  exact stale.elim (fun closed => closed b slot) fun different => different same

/-! ## RETRACT (R143) -/

section

variable {p : Agent} {bs : List Byte}

theorem State.takeRetract_stale (stale : s.openNumbered (halfAt bs 0) = none) :
    s.takeRetract p bs = (s, refuse .staleBallot) := by
  rw [State.takeRetract, stale]

variable {b : OpenBallot} (named : s.openNumbered (halfAt bs 0) = some b)
include named

theorem State.takeRetract_other (other : b.proposer ≠ p) : s.takeRetract p bs = (s, refuse .notProposer) := by
  rw [State.takeRetract, named]
  exact if_pos other

theorem State.takeRetract_own (own : b.proposer = p) : s.takeRetract p bs =
    (s.failBallot s.time.cycle b .withdrawn, ⟨.ok, .ballotNumber s.ballot.number⟩) := by
  rw [State.takeRetract, named]
  exact if_neg (not_not.2 own)

end

/-- Settles O50: a CLOSING session fails the checks of R166, and an OPEN one is answered by the ballot that its number
names. -/
theorem retractFailsTheOwnBallot : Obligations.RetractFailsTheOwnBallot := by
  unfold Obligations.RetractFailsTheOwnBallot
  intro p tag n1 n0 s accepts
  have number : halfAt [n1, n0] 0 = (n1 ++ n0 : Half).toNat := halfAt_cons n1 n0 []
  refine ⟨fun closing => ?refused, fun openState => ?answered⟩
  case refused =>
    obtain ⟨answers, -⟩ := framesAreRefusedDiscardedOrIgnored
    refine answers _ ⟨p, 0x17, tag, [n1, n0]⟩ .sessionClosing s rfl accepts (by simp) ?_
    rw [closing]
    exact frameRefusal_of_length .retract (List.mem_singleton.2 rfl) .closing
  case answered =>
    have answers {t : State} {r : Reply} (takes : ((s.settle p).renewLease p).takeRetract p [n1, n0] = (t, r)) :
        exec (.retract p tag [n1, n0]) s = .next (t.respond p ⟨tag, 0x17, r.status, r.data⟩) :=
      exec_answers_open (c := .retract) rfl accepts openState (List.mem_singleton.2 rfl) (by decide) takes
    refine ⟨fun stale => answers (State.takeRetract_stale ?_), fun b slot same => ?_⟩
    · rw [number]
      exact State.openNumbered_eq_none stale
    · have named : ((s.settle p).renewLease p).openNumbered (halfAt [n1, n0] 0) = some b := by
        rw [number]
        exact State.openNumbered_eq_some_iff.2 ⟨slot, same⟩
      refine ⟨fun other => answers (State.takeRetract_other named other), fun own => ?_⟩
      rw [answers (State.takeRetract_own named own), ← own]
      rfl

end

/-! ## An immediate application, and what it leaves (R148, R149) -/

section

variable {s : State}

theorem State.applyIfIdle_of_not_passed (unpassed : ∀ b p, s.ballot.slot ≠ .passed b p) : s.applyIfIdle = s := by
  obtain ⟨same, -⟩ := immediateApplicationStartsAndTells s _ rfl
  exact same unpassed

theorem State.applyIfIdle_of_running (run : s.time.run.isRunning = true) : s.applyIfIdle = s := by
  obtain ⟨-, same, -⟩ := immediateApplicationStartsAndTells s _ rfl
  exact same run

theorem State.beginIfStarted_owners (before : RunState) :
    (s.beginIfStarted before).driveOwner = s.driveOwner ∧ (s.beginIfStarted before).senseOwner = s.senseOwner := by
  unfold State.beginIfStarted
  split
  · exact ⟨s.served_beginCycle.driveOwner, s.served_beginCycle.senseOwner⟩
  · exact ⟨rfl, rfl⟩

theorem State.notifyIfChanged_owners (before : RunState) :
    (s.notifyIfChanged before).driveOwner = s.driveOwner ∧ (s.notifyIfChanged before).senseOwner = s.senseOwner := by
  unfold State.notifyIfChanged
  split <;> exact ⟨rfl, rfl⟩

/-- No line changes hands where settings are applied. -/
theorem State.applyIfIdle_owners :
    s.applyIfIdle.driveOwner = s.driveOwner ∧ s.applyIfIdle.senseOwner = s.senseOwner := by
  unfold State.applyIfIdle
  split
  · next b p passed =>
    split
    · exact ⟨rfl, rfl⟩
    · obtain ⟨begunDrives, begunSenses⟩ := State.beginIfStarted_owners (s := s.applySettings p) s.time.run
      obtain ⟨drives, senses⟩ := State.notifyIfChanged_owners
        (s := ((s.applySettings p).beginIfStarted s.time.run).emptySlot) s.time.run
      exact ⟨drives.trans (begunDrives.trans (s.applySettings_driveOwner p)),
        senses.trans (begunSenses.trans (s.applySettings_senseOwner p))⟩
  · exact ⟨rfl, rfl⟩
  · exact ⟨rfl, rfl⟩

end

/-! ## VOTE (R142) -/

section

variable {s : State} {p : Agent}

theorem State.takeVote_bad {n1 n0 choice : Byte} (notAccept : choice ≠ 1) (notReject : choice ≠ 2) :
    s.takeVote p [n1, n0, choice] = (s, refuse .badArgument) := by
  have neither : byteAt [n1, n0, choice] 2 ≠ 1 ∧ byteAt [n1, n0, choice] 2 ≠ 2 :=
    ⟨fun same => notAccept (BitVec.eq_of_toNat_eq same), fun same => notReject (BitVec.eq_of_toNat_eq same)⟩
  exact if_pos neither

section

variable {n1 n0 choice : Byte} (either : choice = 1 ∨ choice = 2)
include either

theorem byteAt_choice : ¬ (byteAt [n1, n0, choice] 2 ≠ 1 ∧ byteAt [n1, n0, choice] 2 ≠ 2) := by
  rintro ⟨notAccept, notReject⟩
  rcases either with rfl | rfl
  · exact notAccept rfl
  · exact notReject rfl

theorem State.takeVote_stale (stale : s.openNumbered (n1 ++ n0 : Half).toNat = none) : s.takeVote p [n1, n0, choice] =
    (s, ⟨.staleBallot, .slotReport s.ballot.slot.state s.ballot.number⟩) := by
  unfold State.takeVote
  dsimp only
  rw [if_neg (byteAt_choice either), halfAt_cons, stale]

/-- A vote is decided on the ballot that its number names. -/
theorem State.takeVote_named {b : OpenBallot} (named : s.openNumbered (n1 ++ n0 : Half).toNat = some b) :
    s.takeVote p [n1, n0, choice] = s.voteOn p b (choice == 1) := by
  unfold State.takeVote
  dsimp only
  rw [if_neg (byteAt_choice either), halfAt_cons, named]
  rcases either with rfl | rfl <;> rfl

end

section

variable {b : OpenBallot}

theorem State.voteOn_outsider (accept : Bool) (outside : b.electorate.read p = false) :
    s.voteOn p b accept = (s, refuse .notElector) := by
  simp [State.voteOn, outside]

variable (elector : b.electorate.read p = true)
include elector

theorem State.voteOn_voted (accept : Bool) (voted : b.accepted.read p = true) :
    s.voteOn p b accept = (s, refuse .alreadyVoted) := by
  simp [State.voteOn, elector, voted]

variable (unvoted : b.accepted.read p = false)
include unvoted

theorem State.voteOn_reject : s.voteOn p b false =
    (s.failBallot s.time.cycle b (.rejected p), ⟨.ok, .voted s.ballot.number .failed none⟩) := by
  simp [State.voteOn, elector, unvoted]

theorem State.voteOn_accept : s.voteOn p b true = (s.acceptVote p b,
    ⟨.ok, .voted s.ballot.number (s.acceptVote p b).ballot.slot.outcome (s.acceptVote p b).ballot.slot.waiting⟩) := by
  simp [State.voteOn, elector, unvoted]

end

variable {b : OpenBallot}

theorem OpenBallot.waiting_eq : b.waiting =
    (List.finRange 4).countP fun a => b.electorate.read a && !b.accepted.read a := by
  simp only [OpenBallot.waiting, setSize, setFilter_read]

/-- An ACCEPT after which others are still to accept. -/
theorem State.acceptVote_waits (waits : b.accepted.write p true ≠ b.electorate) : s.acceptVote p b = { s with
    ballot := { s.ballot with slot := .openSlot { b with accepted := b.accepted.write p true } } } := by
  rw [State.acceptVote, State.holdOrPass, if_neg waits]
  exact State.applyIfIdle_of_not_passed fun _ _ => nofun

/-- The ACCEPT that completes the accepted set. -/
theorem State.acceptVote_completes (complete : b.accepted.write p true = b.electorate) : s.acceptVote p b =
    (s.passBallot s.time.cycle { b with accepted := b.accepted.write p true }).applyIfIdle := by
  rw [State.acceptVote, State.holdOrPass, if_pos complete]

variable (elector : b.electorate.read p = true) (unvoted : b.accepted.read p = false)
include elector unvoted

theorem State.voteOn_waits (waits : b.accepted.write p true ≠ b.electorate) : s.voteOn p b true =
    ({ s with ballot := { s.ballot with slot := .openSlot { b with accepted := b.accepted.write p true } } },
      ⟨.ok, .voted s.ballot.number .openBallot
        (some ((List.finRange 4).countP fun a => b.electorate.read a && !(b.accepted.write p true).read a))⟩) := by
  rw [State.voteOn_accept elector unvoted, State.acceptVote_waits waits, Slot.waiting, OpenBallot.waiting_eq]
  rfl

variable (complete : b.accepted.write p true = b.electorate)
include complete

theorem State.voteOn_passes (run : s.time.run.isRunning = true) : s.voteOn p b true =
    (s.passBallot s.time.cycle { b with accepted := b.accepted.write p true },
      ⟨.ok, .voted s.ballot.number .passed none⟩) := by
  rw [State.voteOn_accept elector unvoted, State.acceptVote_completes complete,
    State.applyIfIdle_of_running (by exact run)]
  rfl

theorem State.voteOn_applies (idle : s.time.run.isRunning = false) : s.voteOn p b true =
    ((s.passBallot s.time.cycle { b with accepted := b.accepted.write p true }).applyIfIdle,
      ⟨.ok, .voted s.ballot.number .applied none⟩) := by
  obtain ⟨-, ballot⟩ := State.applyIfIdle_applies
    (s := s.passBallot s.time.cycle { b with accepted := b.accepted.write p true }) rfl idle
  rw [State.voteOn_accept elector unvoted, State.acceptVote_completes complete, ballot]
  rfl

end

/-! ## The statement on VOTE -/

/-- The response of a frame joins those that wait, whatever its command did beside (R165). -/
theorem State.responses_respond {s t : State} {p : Agent} (ports : t.ports = (s.settle p).ports) (r : Response) :
    ((t.respond p r).port p).responses = (s.port p).responses ++ [r] := by
  have settled : (t.port p).responses = (s.port p).responses := by
    have same : t.port p = (s.settle p).port p := congrArg (Bank.read · p) ports
    rw [same, State.settle, State.port_setPort, if_pos rfl]
  rw [State.respond, State.port_setPort, if_pos rfl, settled]

/-- What a frame leaves whose ballot is applied in the same event, in the blocks that the ballot concerns. -/
theorem State.respond_applyIfIdle {s t : State} {a p : Agent} {q : Proposal} (passed : t.ballot.slot = .passed a q)
    (idle : t.time.run.isRunning = false) (ports : t.ports = (s.settle p).ports) (r : Response) :
    (t.applyIfIdle.respond p r).settings = t.settings.updated q
    ∧ (t.applyIfIdle.respond p r).ballot = { t.ballot with slot := .empty }
    ∧ ((t.applyIfIdle.respond p r).port p).responses = (s.port p).responses ++ [r]
    ∧ (t.applyIfIdle.respond p r).driveOwner = t.driveOwner
    ∧ (t.applyIfIdle.respond p r).senseOwner = t.senseOwner := by
  obtain ⟨settings, ballot⟩ := State.applyIfIdle_applies passed idle
  obtain ⟨drives, senses⟩ := t.applyIfIdle_owners
  exact ⟨settings, ballot, State.responses_respond ((State.ports_of_shell t.applyIfIdle_shell).trans ports) r, drives,
    senses⟩

/-- Settles O47: the choice byte, the ballot that the number names, and the agent's place in it, in this order; an
ACCEPT by whether it completes the accepted set and whether the time base runs. -/
theorem voteDecidesTheBallot : Obligations.VoteDecidesTheBallot := by
  unfold Obligations.VoteDecidesTheBallot
  intro p tag n1 n0 choice s accepts openState
  have answers {t : State} {r : Reply} (takes : ((s.settle p).renewLease p).takeVote p [n1, n0, choice] = (t, r)) :
      exec (.vote p tag [n1, n0, choice]) s = .next (t.respond p ⟨tag, 0x16, r.status, r.data⟩) :=
    exec_answers_open (c := .vote) rfl accepts openState (List.mem_singleton.2 rfl) (by decide) takes
  refine ⟨fun notAccept notReject => answers (State.takeVote_bad notAccept notReject),
    fun either => ⟨fun stale => answers (State.takeVote_stale either (State.openNumbered_eq_none stale)),
      fun b slot same => ?_⟩⟩
  have standing : ((s.settle p).renewLease p).ballot.slot = .openSlot b := slot
  have decides {t : State} {r : Reply} (votes : ((s.settle p).renewLease p).voteOn p b (choice == 1) = (t, r)) :
      exec (.vote p tag [n1, n0, choice]) s = .next (t.respond p ⟨tag, 0x16, r.status, r.data⟩) :=
    answers ((State.takeVote_named either (State.openNumbered_eq_some_iff.2 ⟨standing, same⟩)).trans votes)
  refine ⟨fun outside => decides (State.voteOn_outsider _ outside),
    fun elector voted => decides (State.voteOn_voted elector _ voted), fun elector unvoted => ?_⟩
  refine ⟨?waits, ?passes, ?applied, ?reject⟩
  case waits =>
    rintro rfl waits
    exact decides (State.voteOn_waits elector unvoted waits)
  case passes =>
    rintro rfl complete run
    have passes := State.voteOn_passes (s := (s.settle p).renewLease p) elector unvoted complete run
    rw [State.passBallot_eq] at passes
    refine ⟨_, decides passes, rfl, State.responses_respond rfl _, fun a => ?_, rfl, rfl, rfl, rfl, rfl, rfl⟩
    rw [State.session_respond]
    refine (Bank.read_build _ a).trans ?_
    rw [State.settled_session]
    rfl
  case applied =>
    rintro rfl complete idle
    exact ⟨_, decides (State.voteOn_applies elector unvoted complete idle), rfl,
      State.respond_applyIfIdle
        (t := ((s.settle p).renewLease p).passBallot s.time.cycle { b with accepted := b.accepted.write p true })
        rfl idle rfl _⟩
  case reject =>
    rintro rfl
    exact decides (State.voteOn_reject elector unvoted)

end Sys2Proof.Machine
end

section
/-! SUPPORT. PROPOSE (R138 to R140): what the renewed lease leaves of its checks, the checks in their order, what an
accepted proposal does, and the statements on both (O45, O44). -/

namespace Sys2Proof.Machine

/-! ## The checks look at nothing that a port or a lease holds -/

section

variable {s : State} {p : Agent}

theorem State.settled_staged (b : Agent) :
    (((s.settle p).renewLease p).session b).staging = (s.session b).staging := by
  rw [State.settled_session]
  split
  · next same => rw [Session.renew_staging, same]
  · rfl

theorem State.settled_state (b : Agent) : (((s.settle p).renewLease p).session b).state = (s.session b).state := by
  rw [State.settled_session]
  split
  · next same => rw [Session.renew_state, same]
  · rfl

theorem State.settled_offsetConflict (q : Proposal) :
    ((s.settle p).renewLease p).offsetConflict q = s.offsetConflict q := by
  simp only [State.offsetConflict, State.offsetConflictOf, State.settled_staged, State.settled_active]

theorem State.settled_quotaConflict (q : Proposal) :
    ((s.settle p).renewLease p).quotaConflict q = s.quotaConflict q := by
  unfold State.quotaConflict State.exceedsQuota
  simp only [State.settled_staged, State.settled_active]

theorem State.settled_electorateFor : ((s.settle p).renewLease p).electorateFor p = s.electorateFor p := by
  simp only [State.electorateFor, State.settled_state]

/-! ## The checks in their order (R138) -/

theorem byteAt_cons_zero_iff {b : Byte} {bs : List Byte} : byteAt (b :: bs) 0 = 0 ↔ b = 0 :=
  BitVec.toNat_inj (x := b) (y := 0)

theorem State.takePropose_busy {b : Agent} (bs : List Byte) (busy : s.ballot.slot.proposer? = some b) :
    s.takePropose p bs = (s, ⟨.ballotBusy, .ballotBusy s.ballot.slot.state s.ballot.number b⟩) := by
  rw [State.takePropose, busy]

section

variable {steps : Byte} {r : List Byte} (empty : s.ballot.slot = .empty)
include empty

theorem State.takePropose_empty (bs : List Byte) : s.takePropose p bs = s.proposeOnEmpty p bs := by
  rw [State.takePropose, empty]
  rfl

theorem State.takePropose_badArgument (bad : steps = 0 ∨ unusedBitSet r = true) :
    s.takePropose p (steps :: r) = (s, refuse .badArgument) := by
  rw [State.takePropose_empty empty]
  exact if_pos (bad.imp_left byteAt_cons_zero_iff.2)

variable (ne : steps ≠ 0) (used : unusedBitSet r = false)
include ne used

theorem State.takePropose_invalid {f : SettingFault} (fault : s.settingFault r = some f) :
    s.takePropose p (steps :: r) = (s, ⟨.invalidSetting, .settingFault f⟩) := by
  simp [State.takePropose_empty empty, State.proposeOnEmpty, byteAt_cons_zero_iff.not.2 ne, used, fault]

variable (legal : s.settingFault r = none)
include legal

theorem State.takePropose_offset {c : OffsetConflict} (conflict : s.offsetConflict (proposalOf r) = some c) :
    s.takePropose p (steps :: r) =
      (s, ⟨.offsetConflict, .offsetConflict c.agent c.entry.handle c.entry.offset c.active⟩) := by
  simp [State.takePropose_empty empty, State.proposeOnEmpty, byteAt_cons_zero_iff.not.2 ne, used, legal, conflict]

variable (below : s.offsetConflict (proposalOf r) = none)
include below

theorem State.takePropose_quota {b : Agent} {k : Nat} (conflict : s.quotaConflict (proposalOf r) = some b)
    (quota : (proposalOf r).quota.read b = some k) : s.takePropose p (steps :: r) =
      (s, ⟨.quotaConflict, .quotaConflict b k (s.session b).staging.length (s.session b).active.length⟩) := by
  simp [State.takePropose_empty empty, State.proposeOnEmpty, byteAt_cons_zero_iff.not.2 ne, used, legal, below,
    conflict, quota]

variable (within : s.quotaConflict (proposalOf r) = none)
include within

theorem State.takePropose_reserved (owned : setIsEmpty (s.reservedLines (proposalOf r)) = false) :
    s.takePropose p (steps :: r) = (s, ⟨.lineReserved, .reservedLines (s.reservedLines (proposalOf r))⟩) := by
  simp [State.takePropose_empty empty, State.proposeOnEmpty, byteAt_cons_zero_iff.not.2 ne, used, legal, below,
    within, owned]

theorem State.takePropose_accepts (free : setIsEmpty (s.reservedLines (proposalOf r)) = true) {b : OpenBallot}
    (ballot : b = s.newBallot p (proposalOf r) steps.toNat) : s.takePropose p (steps :: r) = (s.acceptProposal b,
      ⟨.ok, .proposed (s.acceptProposal b).ballot.number b.electorate (s.acceptProposal b).ballot.slot.outcome⟩) := by
  subst ballot
  simp [State.takePropose_empty empty, State.proposeOnEmpty, byteAt_cons_zero_iff.not.2 ne, used, legal, below, within,
    free]
  exact ⟨rfl, rfl, rfl, rfl⟩

end

/-- Check 6 passes where no line of the lock set has an owner. -/
theorem State.reservedLines_isEmpty_iff (q : Proposal) : setIsEmpty (s.reservedLines q) = true ↔
    ∀ d, q.lockSet.read d = true → s.driveOwner.read d = none := by
  simp [setIsEmpty_iff, State.reservedLines]

theorem exec_propose_open {tag steps : Byte} {r : List Byte} (accepts : s.Accepts p)
    (openState : (s.session p).state = .openState) (length : r.length = 38) {t : State} {reply : Reply}
    (takes : ((s.settle p).renewLease p).takePropose p (steps :: r) = (t, reply)) :
    exec (.propose p tag (steps :: r)) s = .next (t.respond p ⟨tag, 0x15, reply.status, reply.data⟩) :=
  exec_answers_open (c := .propose) rfl accepts openState
    (List.mem_singleton.2 (by rw [List.length_cons, length])) (by decide) takes

end

/-- Settles O45: each check by its lemma, on the state that the renewed lease leaves. -/
theorem proposeChecksInOrder : Obligations.ProposeChecksInOrder := by
  unfold Obligations.ProposeChecksInOrder
  intro p tag steps r s accepts openState length
  have answers {reply : Reply}
      (takes : ((s.settle p).renewLease p).takePropose p (steps :: r) = ((s.settle p).renewLease p, reply)) :
      exec (.propose p tag (steps :: r)) s = .next (s.answered p ⟨tag, 0x15, reply.status, reply.data⟩) :=
    exec_propose_open accepts openState length takes
  have offsets := s.settled_offsetConflict (p := p) (proposalOf r)
  have quotas := s.settled_quotaConflict (p := p) (proposalOf r)
  refine ⟨fun b busy => answers (State.takePropose_busy _ busy), fun slot => ?_⟩
  have empty : ((s.settle p).renewLease p).ballot.slot = .empty := slot
  refine ⟨fun bad => answers (State.takePropose_badArgument empty bad), fun ne used =>
    ⟨fun f fault => answers (State.takePropose_invalid empty ne used fault), fun legal =>
    ⟨fun c conflict => ?offset, fun below => ⟨fun b k conflict quota => ?quota, fun within owned => ?reserved⟩⟩⟩⟩
  case offset => exact answers (State.takePropose_offset empty ne used legal (offsets.trans conflict))
  case quota =>
    have takes :=
      State.takePropose_quota (p := p) empty ne used legal (offsets.trans below) (quotas.trans conflict) quota
    rw [State.settled_staged, State.settled_active] at takes
    exact answers takes
  case reserved =>
    obtain ⟨d, locked, owner⟩ := owned
    have reserved : setIsEmpty (s.reservedLines (proposalOf r)) = false := by
      rw [Bool.eq_false_iff, Ne, State.reservedLines_isEmpty_iff]
      exact fun free => owner (free d locked)
    exact answers
      (State.takePropose_reserved empty ne used legal (offsets.trans below) (quotas.trans within) reserved)

/-! ## An accepted proposal (R140) -/

section

variable {s : State} {p : Agent}

theorem State.acceptProposal_opens {b : OpenBallot} (electors : ∃ a, b.electorate.read a = true) :
    s.acceptProposal b = (s.openSlot b).notifyOpened b := by
  have waits : setIsEmpty b.electorate ≠ true := by
    rw [Ne, setIsEmpty_iff]
    obtain ⟨a, elector⟩ := electors
    exact fun none => Bool.eq_false_iff.1 (none a) elector
  exact if_neg waits

theorem State.acceptProposal_passes {b : OpenBallot} (none : ∀ a, b.electorate.read a = false) :
    s.acceptProposal b = ((s.openSlot b).passBallot s.time.cycle b).applyIfIdle :=
  if_pos ((setIsEmpty_iff _).2 none)

/-- The electors are other agents than the proposer, and their sessions are OPEN. -/
theorem State.electorateFor_read_iff (s : State) (a : Agent) :
    (s.electorateFor p).read a = true ↔ a ≠ p ∧ (s.session a).state = .openState := by
  simp [State.electorateFor]

/-- Beside the lease of the proposer, the opening of the ballot concerns the electors alone. -/
theorem State.notifyOpened_electorate {b : OpenBallot} (electorate : b.electorate = s.electorateFor p) :
    (((s.settle p).renewLease p).openSlot b).notifyOpened b = { (s.settle p).renewLease p with
      ballot := ⟨s.ballot.number + 1, .openSlot b, s.ballot.last⟩
      sessions := Bank.build fun a =>
        if a = p then (s.session p).renew
        else if b.electorate.read a then
          (s.session a).offer ⟨.ballotOpened (s.ballot.number + 1) b.proposer b.deadline, s.time.cycle⟩
        else s.session a } := by
  refine congrArg (fun q => { (s.settle p).renewLease p with
    ballot := ⟨s.ballot.number + 1, .openSlot b, s.ballot.last⟩
    sessions := q }) (Bank.ext_read fun a => ?_)
  have session : (((s.settle p).renewLease p).openSlot b).session a =
      if a = p then (s.session p).renew else s.session a := State.settled_session _ _ _
  have isElector := s.electorateFor_read_iff (p := p) a
  rw [← electorate] at isElector
  simp only [Bank.read_build, session]
  by_cases own : a = p
  · have outside : b.electorate.read a = false := by
      rw [Bool.eq_false_iff, Ne, isElector]
      exact fun elector => elector.left own
    subst own
    simp [outside]
  · cases elector : b.electorate.read a
    · rw [if_neg own, if_neg own]
      rfl
    · obtain ⟨-, openState⟩ := isElector.1 elector
      rw [if_neg own, if_neg own, openState]
      rfl

/-- The state in which a proposal has passed with nobody to wait for: the proposer alone is told. -/
def State.passedUnopposed (s : State) (p : Agent) (q : Proposal) : State :=
  { (s.settle p).renewLease p with
    ballot := ⟨s.ballot.number + 1, .passed p q, some ⟨s.ballot.number + 1, .passed⟩⟩
    sessions := s.sessions.write p
      ((s.session p).renew.offer ⟨.ballotClosed (s.ballot.number + 1) .passed, s.time.cycle⟩) }

theorem State.acceptProposal_unopposed (openState : (s.session p).state = .openState) {b : OpenBallot}
    (own : b.proposer = p) (none : ∀ a, b.electorate.read a = false) :
    ((s.settle p).renewLease p).acceptProposal b = (s.passedUnopposed p b.proposal).applyIfIdle := by
  subst own
  rw [State.acceptProposal_passes none, State.passBallot_eq]
  refine congrArg (fun q => State.applyIfIdle { (s.settle b.proposer).renewLease b.proposer with
    ballot := ⟨s.ballot.number + 1, .passed b.proposer b.proposal, some ⟨s.ballot.number + 1, .passed⟩⟩
    sessions := q }) (Bank.ext_read fun a => ?_)
  have session : (((s.settle b.proposer).renewLease b.proposer).openSlot b).session a =
      if a = b.proposer then (s.session b.proposer).renew else s.session a := State.settled_session _ _ _
  rw [Bank.read_build, session, Bank.read_write, none a]
  by_cases proposer : a = b.proposer
  · have present : (s.session b.proposer).renew.state.present = true := by
      rw [Session.renew_state, openState]
      rfl
    rw [if_pos proposer, if_pos proposer, if_pos ⟨.inl proposer, present⟩]
    rfl
  · rw [if_neg proposer, if_neg proposer, if_neg fun told => told.left.elim proposer nofun]
    rfl

end

/-- Settles O44: the ballot opens if the electorate has a member, and passes otherwise. -/
theorem proposeOpensABallot : Obligations.ProposeOpensABallot := by
  unfold Obligations.ProposeOpensABallot
  rintro p tag steps r el s accepts openState length slot ne used legal below within unowned rfl
  obtain ⟨b, ballot⟩ : ∃ b : OpenBallot,
    b = ⟨p, proposalOf r, s.electorateFor p, emptySet 4, 10 * steps.toNat⟩ := ⟨_, rfl⟩
  have own : b.proposer = p := by rw [ballot]
  have electorate : b.electorate = s.electorateFor p := by rw [ballot]
  have isNew : b = ((s.settle p).renewLease p).newBallot p (proposalOf r) steps.toNat := by
    rw [ballot, State.newBallot, State.settled_electorateFor]
    rfl
  have empty : ((s.settle p).renewLease p).ballot.slot = .empty := slot
  have answers := exec_propose_open (tag := tag) accepts openState length
    (State.takePropose_accepts empty ne used legal ((s.settled_offsetConflict _).trans below)
      ((s.settled_quotaConflict _).trans within) ((State.reservedLines_isEmpty_iff _).2 unowned) isNew)
  have opens (electors : ∃ a, b.electorate.read a = true) :=
    (State.acceptProposal_opens (s := (s.settle p).renewLease p) electors).trans
      (State.notifyOpened_electorate electorate)
  have passes := State.acceptProposal_unopposed openState own
  rw [electorate] at opens passes
  refine ⟨fun electors => ?opens, fun none run => ?passes, fun none idle => ?applied⟩
  case opens =>
    rw [answers, opens electors, ballot]
    rfl
  case passes =>
    rw [answers, passes none, State.applyIfIdle_of_running (by exact run), ballot]
    rfl
  case applied =>
    obtain ⟨-, emptied⟩ := State.applyIfIdle_applies (s := s.passedUnopposed p b.proposal) rfl idle
    rw [passes none, emptied, ballot] at answers
    exact ⟨_, answers, rfl, State.respond_applyIfIdle (t := s.passedUnopposed p (proposalOf r)) rfl idle rfl _⟩

end Sys2Proof.Machine
end

section
/-! SUPPORT. The settings record of a proposal read back from its bytes (R135, R136, R173, section 11.4), for O10. -/

namespace Sys2Proof.Machine

/-! ## Presence bits -/

theorem setBits_eq_ofBits {n : Nat} (b : Bank Bool n) : setBits b = Nat.ofBits b.read := by
  have weights {m : Nat} (f : Fin m → Bool) :
      ((List.finRange m).map fun i => if f i then 2 ^ i.val else 0).sum = Nat.ofBits f := by
    induction m with
    | zero => rfl
    | succ m ih =>
      have double (i : Fin m) : (if f i.succ = true then 2 ^ i.succ.val else 0) =
          2 * if (f ∘ Fin.succ) i = true then 2 ^ i.val else 0 := by
        rw [mul_ite, Fin.val_succ, pow_succ']
        rfl
      have lowest : (if f 0 = true then 2 ^ (0 : Fin (m + 1)).val else 0) = (f 0).toNat := by cases f 0 <;> rfl
      simp only [List.finRange_succ, List.map_cons, List.map_map, List.sum_cons, Function.comp_def, double,
        List.sum_map_mul_left, lowest, Nat.ofBits_succ, ← ih]
      rw [add_comm]
  exact weights b.read

theorem setBits_lt {n : Nat} (b : Bank Bool n) : setBits b < 2 ^ n := by
  rw [setBits_eq_ofBits]
  exact Nat.ofBits_lt_two_pow _

/-- Member i of a set is bit i of its encoding. -/
theorem setBits_testBit {n : Nat} (b : Bank Bool n) (i : Fin n) : (setBits b).testBit i.val = b.read i := by
  rw [setBits_eq_ofBits, Nat.testBit_ofBits_lt _ _ i.isLt]

theorem presentSet_testBit {α : Type} {n : Nat} (b : Bank (Option α) n) (i : Fin n) :
    (setBits (presentSet b)).testBit i.val = (b.read i).isSome := by
  rw [setBits_testBit, presentSet, Bank.read_build]

/-- Which single fields are present, in the order of the presence bits of byte 0. -/
def Proposal.presentSingles (p : Proposal) : Fin 8 → Bool :=
  ![p.timingFilter.isSome, p.gateSource.isSome, p.triggerSource.isSome, p.budget.isSome, p.run.isSome, p.mode.isSome,
    p.divider.isSome, p.period.isSome]

theorem Proposal.presence_eq (p : Proposal) : p.presence = Nat.ofBits p.presentSingles := by
  have weight (b : Bool) (k : Nat) : (if b = true then k else 0) = k * b.toNat := by cases b <;> simp
  simp only [Proposal.presence, Proposal.presentSingles, weight, Nat.ofBits_succ, Nat.ofBits_zero, Function.comp_apply,
    Matrix.cons_val_zero, Matrix.cons_val_succ]
  omega

theorem Proposal.presence_lt (p : Proposal) : p.presence < 256 := by
  rw [p.presence_eq]
  exact Nat.ofBits_lt_two_pow _

theorem Proposal.presence_testBit (p : Proposal) (i : Fin 8) : p.presence.testBit i.val = p.presentSingles i := by
  rw [p.presence_eq, Nat.testBit_ofBits_lt _ _ i.isLt]

/-! ## The layout of a record (section 11.4) -/

section

variable {α : Type}

/-- The byte at a place of a record: a field's where the field is present, free where it is absent (log entry 18). -/
def fieldByte (tag : Byte) (place : Nat) (f : α → Byte) : Option α → Byte
  | none => Config.absentByte tag place
  | some x => f x

/-- The two bytes of a field of two bytes, at a place of a record and the next. -/
def fieldHalf (tag : Byte) (place : Nat) (f : α → Nat) (x : Option α) : List Byte :=
  [fieldByte tag place (fun y => byte (f y / 256)) x, fieldByte tag (place + 1) (fun y => byte (f y)) x]

theorem fieldBytes_eq_fieldByte (tag : Byte) (place : Nat) (f : α → Byte) (x : Option α) :
    fieldBytes tag place 1 (fun y => [f y]) x = [fieldByte tag place f x] := by
  cases x <;> rfl

theorem fieldBytes_eq_fieldHalf (tag : Byte) (place : Nat) (f : α → Nat) (x : Option α) :
    fieldBytes tag place 2 (fun y => half (f y)) x = fieldHalf tag place f x := by
  cases x <;> rfl

theorem fieldByte_value {f : α → Byte} {o : Option α} {x : α} (present : o = some x) (tag : Byte) (place : Nat) :
    (fieldByte tag place f o).toNat = (f x).toNat := by
  rw [present]
  rfl

theorem fieldHalf_value {f : α → Nat} {o : Option α} {x : α} (present : o = some x) (fits : f x < 65536) (tag : Byte)
    (place : Nat) : 256 * (fieldByte tag place (fun y => byte (f y / 256)) o).toNat
      + (fieldByte tag (place + 1) (fun y => byte (f y)) o).toNat = f x := by
  rw [fieldByte_value present, fieldByte_value present]
  exact half_value fits

end

/-- The number that a pair-setup field carries: bit 15 interlock, bits 9 to 0 guard. -/
def PairSetup.word (x : PairSetup) : Nat := (if x.interlock then 32768 else 0) + x.guard

theorem PairSetup.word_lt (x : PairSetup) (range : x.guard ≤ 1023) : x.word < 65536 := by
  unfold PairSetup.word
  split <;> omega

section

variable (x : PairSetup) (range : x.guard ≤ 1023)
include range

theorem PairSetup.word_testBit : x.word.testBit 15 = x.interlock := by
  rw [Nat.testBit_eq_decide_div_mod_eq, PairSetup.word]
  cases x.interlock <;> simp <;> omega

theorem PairSetup.word_mod : x.word % 1024 = x.guard := by
  unfold PairSetup.word
  split <;> omega

/-- Bits 14 to 10 are clear. -/
theorem PairSetup.word_unused : x.word / 1024 % 32 = 0 := by
  unfold PairSetup.word
  split <;> omega

end

/-- The presence bits and the single fields of a record. -/
def Proposal.singleBytes (tag : Byte) (p : Proposal) : List Byte :=
  [byte p.presence, smallSetByte (presentSet p.quota), smallSetByte (presentSet p.pairSetup),
    byte (setBits (presentSet p.idleLevel) / 256), byte (setBits (presentSet p.idleLevel)),
    fieldByte tag 5 (fun k => byte (k % 65536 / 256)) p.period, fieldByte tag 6 (fun k => byte (k % 65536)) p.period,
    fieldByte tag 7 (fun k => byte (k / 256)) p.divider, fieldByte tag 8 byte p.divider,
    fieldByte tag 9 Mode.code p.mode, fieldByte tag 10 RunField.code p.run,
    fieldByte tag 11 (fun k => byte (k / 256)) p.budget, fieldByte tag 12 byte p.budget,
    fieldByte tag 13 sourceCode p.triggerSource, fieldByte tag 14 sourceCode p.gateSource,
    fieldByte tag 15 byte p.timingFilter]

def Proposal.quotaBytes (tag : Byte) (p : Proposal) : List Byte :=
  (List.finRange 4).flatMap fun a => [fieldByte tag (16 + a.val) byte (p.quota.read a)]

def Proposal.pairBytes (tag : Byte) (p : Proposal) : List Byte :=
  (List.finRange 8).flatMap fun i => fieldHalf tag (20 + 2 * i.val) PairSetup.word (p.pairSetup.read i)

/-- The bytes of a record are those of its single fields, its quotas, its pair setups and its idle levels. -/
theorem Proposal.bytes_eq (tag : Byte) (p : Proposal) :
    p.bytes tag = p.singleBytes tag ++ (p.quotaBytes tag ++ (p.pairBytes tag ++ idleBits tag p.idleLevel)) := by
  have singles : p.singleBytes tag =
      [byte p.presence, smallSetByte (presentSet p.quota), smallSetByte (presentSet p.pairSetup)]
        ++ driveSetBytes (presentSet p.idleLevel)
        ++ fieldHalf tag 5 (· % 65536) p.period ++ fieldHalf tag 7 id p.divider
        ++ [fieldByte tag 9 Mode.code p.mode] ++ [fieldByte tag 10 RunField.code p.run]
        ++ fieldHalf tag 11 id p.budget
        ++ [fieldByte tag 13 sourceCode p.triggerSource] ++ [fieldByte tag 14 sourceCode p.gateSource]
        ++ [fieldByte tag 15 byte p.timingFilter] := rfl
  rw [singles, Proposal.quotaBytes, Proposal.pairBytes]
  simp only [← fieldBytes_eq_fieldByte, ← fieldBytes_eq_fieldHalf, ← List.append_assoc]
  rfl

/-! ## A byte at its place -/

theorem getElem?_append_add {α : Type} {pre : List α} {k : Nat} (length : pre.length = k) (rest : List α) (i : Nat) :
    (pre ++ rest)[k + i]? = rest[i]? := by
  subst length
  rw [List.getElem?_append_right (Nat.le_add_right _ _), Nat.add_sub_cancel_left]

theorem getElem?_finRange_flatMap_pair {α : Type} {n : Nat} (f g : Fin n → α) (i : Fin n) (rest : List α) :
    ((List.finRange n).flatMap (fun k => [f k, g k]) ++ rest)[2 * i.val]? = some (f i)
      ∧ ((List.finRange n).flatMap (fun k => [f k, g k]) ++ rest)[2 * i.val + 1]? = some (g i) := by
  have all (l : List (Fin n)) (j : Nat) (inside : j < l.length) :
      (l.flatMap (fun k => [f k, g k]) ++ rest)[2 * j]? = l[j]?.map f
        ∧ (l.flatMap (fun k => [f k, g k]) ++ rest)[2 * j + 1]? = l[j]?.map g := by
    induction l generalizing j with
    | nil => cases inside
    | cons k l ih =>
      cases j with
      | zero => exact ⟨rfl, rfl⟩
      | succ j => exact ih j (Nat.lt_of_succ_lt_succ inside)
  simpa using all (List.finRange n) i.val (by simp)

theorem byteAt_of_getElem? {r : List Byte} {i : Nat} {b : Byte} (stands : r[i]? = some b) :
    byteAt r i = b.toNat := by
  rw [byteAt, List.getD_eq_getElem?_getD, stands]
  rfl

theorem halfAt_of_getElem? {r : List Byte} {i : Nat} {b1 b0 : Byte} (high : r[i]? = some b1)
    (low : r[i + 1]? = some b0) : halfAt r i = 256 * b1.toNat + b0.toNat := by
  rw [halfAt, byteAt_of_getElem? high, byteAt_of_getElem? low]

section

variable (tag : Byte) (p : Proposal)

theorem Proposal.bytes_length : (p.bytes tag).length = 38 := by
  rw [p.bytes_eq tag]
  rfl

theorem Proposal.byteAt_bytes_quota (a : Agent) :
    byteAt (p.bytes tag) (16 + a.val) = (fieldByte tag (16 + a.val) byte (p.quota.read a)).toNat := by
  refine byteAt_of_getElem? ?_
  rw [p.bytes_eq tag, getElem?_append_add (k := 16) rfl]
  fin_cases a <;> rfl

theorem Proposal.halfAt_bytes_pairSetup (i : Pair) : halfAt (p.bytes tag) (20 + 2 * i.val) =
    256 * (fieldByte tag (20 + 2 * i.val) (fun x => byte (PairSetup.word x / 256)) (p.pairSetup.read i)).toNat
      + (fieldByte tag (20 + 2 * i.val + 1) (fun x => byte (PairSetup.word x)) (p.pairSetup.read i)).toNat := by
  have place (j : Nat) : (p.bytes tag)[20 + j]? = (p.pairBytes tag ++ idleBits tag p.idleLevel)[j]? := by
    rw [p.bytes_eq tag, ← List.append_assoc]
    exact getElem?_append_add rfl _ j
  obtain ⟨high, low⟩ := getElem?_finRange_flatMap_pair
    (fun i : Pair => fieldByte tag (20 + 2 * i.val) (fun x => byte (PairSetup.word x / 256)) (p.pairSetup.read i))
    (fun i => fieldByte tag (20 + 2 * i.val + 1) (fun x => byte (PairSetup.word x)) (p.pairSetup.read i))
    i (idleBits tag p.idleLevel)
  exact halfAt_of_getElem? ((place _).trans high) ((place _).trans low)

theorem Proposal.halfAt_bytes_idleLevel {d : Drive} {l : Level} (present : p.idleLevel.read d = some l) :
    (halfAt (p.bytes tag) 36).testBit d.val = (l == .high) := by
  have place (j : Nat) : (p.bytes tag)[36 + j]? = (idleBits tag p.idleLevel)[j]? := by
    rw [p.bytes_eq tag, ← List.append_assoc, ← List.append_assoc]
    exact getElem?_append_add rfl _ j
  rw [(halfAt_of_getElem? (place 0) (place 1)).trans (half_value (setBits_lt _)), setBits_testBit, Bank.read_build,
    present]

end

/-! ## A record that carries a proposal -/

/-- The fields of a proposal that the encoding could carry out of their ranges lie in them (R135). -/
structure Proposal.InRange (p : Proposal) : Prop where
  period : ∀ k, p.period = some k → 2 ≤ k ∧ k ≤ 65536
  divider : ∀ k, p.divider = some k → 1 ≤ k ∧ k ≤ 4096
  budget : ∀ k, p.budget = some k → k ≤ 65535
  timingFilter : ∀ k, p.timingFilter = some k → k ≤ 15
  quota : ∀ a k, p.quota.read a = some k → k ≤ 128
  guard : ∀ i x, p.pairSetup.read i = some x → x.guard ≤ 1023

/-- The bytes of a record read as the presence bits and the present fields of a proposal, whatever stands elsewhere. -/
structure Proposal.CarriedBy (p : Proposal) (r : List Byte) : Prop where
  fields : byteAt r 0 = p.presence
  quotas : byteAt r 1 = setBits (presentSet p.quota)
  pairSetups : byteAt r 2 = setBits (presentSet p.pairSetup)
  idleLevels : halfAt r 3 = setBits (presentSet p.idleLevel)
  period : ∀ k, p.period = some k → halfAt r 5 = k % 65536
  divider : ∀ k, p.divider = some k → halfAt r 7 = k
  mode : ∀ m, p.mode = some m → byteAt r 9 = m.code.toNat
  run : ∀ f, p.run = some f → byteAt r 10 = f.code.toNat
  budget : ∀ k, p.budget = some k → halfAt r 11 = k
  triggerSource : ∀ x, p.triggerSource = some x → byteAt r 13 = (sourceCode x).toNat
  gateSource : ∀ x, p.gateSource = some x → byteAt r 14 = (sourceCode x).toNat
  timingFilter : ∀ k, p.timingFilter = some k → byteAt r 15 = k
  quota : ∀ a k, p.quota.read a = some k → byteAt r (16 + a.val) = k
  pairSetup : ∀ i x, p.pairSetup.read i = some x → halfAt r (20 + 2 * i.val) = x.word
  idleLevel : ∀ d l, p.idleLevel.read d = some l → (halfAt r 36).testBit d.val = (l == .high)

/-- The bytes of a proposal carry it. -/
theorem Proposal.InRange.carriedBy_bytes {p : Proposal} (h : p.InRange) (tag : Byte) : p.CarriedBy (p.bytes tag) := by
  have single {i : Nat} {b : Byte} (stands : (p.singleBytes tag)[i]? = some b) : (p.bytes tag)[i]? = some b := by
    obtain ⟨inside, -⟩ := List.getElem?_eq_some_iff.1 stands
    rw [p.bytes_eq tag, List.getElem?_append_left inside, stands]
  have oneByte {i : Nat} {b : Byte} (stands : (p.singleBytes tag)[i]? = some b) :
      byteAt (p.bytes tag) i = b.toNat := byteAt_of_getElem? (single stands)
  have twoBytes {i n : Nat} (fits : n < 65536) (high : (p.singleBytes tag)[i]? = some (byte (n / 256)))
      (low : (p.singleBytes tag)[i + 1]? = some (byte n)) : halfAt (p.bytes tag) i = n :=
    (halfAt_of_getElem? (single high) (single low)).trans (half_value fits)
  constructor
  case fields => exact (oneByte rfl).trans (toNat_byte p.presence_lt)
  case quotas => exact (oneByte rfl).trans (toNat_byte ((setBits_lt (presentSet p.quota)).trans (by decide)))
  case pairSetups => exact (oneByte rfl).trans (toNat_byte (setBits_lt (presentSet p.pairSetup)))
  case idleLevels => exact twoBytes (setBits_lt (presentSet p.idleLevel)) rfl rfl
  case period =>
    intro k present
    refine twoBytes (Nat.mod_lt k (by decide)) ?_ ?_ <;> rw [Proposal.singleBytes, present] <;> rfl
  case divider =>
    intro k present
    have range := h.divider k present
    refine twoBytes (by omega) ?_ ?_ <;> rw [Proposal.singleBytes, present] <;> rfl
  case mode => exact fun m present => (oneByte rfl).trans (fieldByte_value present tag 9)
  case run => exact fun f present => (oneByte rfl).trans (fieldByte_value present tag 10)
  case budget =>
    intro k present
    have range := h.budget k present
    refine twoBytes (by omega) ?_ ?_ <;> rw [Proposal.singleBytes, present] <;> rfl
  case triggerSource => exact fun x present => (oneByte rfl).trans (fieldByte_value present tag 13)
  case gateSource => exact fun x present => (oneByte rfl).trans (fieldByte_value present tag 14)
  case timingFilter =>
    intro k present
    have range := h.timingFilter k present
    exact (oneByte rfl).trans ((fieldByte_value present tag 15).trans (toNat_byte (by omega)))
  case quota =>
    intro a k present
    have range := h.quota a k present
    rw [p.byteAt_bytes_quota, fieldByte_value present]
    exact toNat_byte (by omega)
  case pairSetup =>
    intro i x present
    rw [p.halfAt_bytes_pairSetup]
    exact fieldHalf_value present (x.word_lt (h.guard i x present)) tag _
  case idleLevel => exact fun d l present => p.halfAt_bytes_idleLevel tag present

/-! ## What is read of a record that carries a proposal -/

/-- A field is read back if its presence bit is, and its value where it is present. -/
theorem whenPresent_eq {α : Type} {o : Option α} {present : Bool} {x : α} (bit : present = o.isSome)
    (value : ∀ y, o = some y → x = y) : whenPresent present x = o := by
  subst bit
  cases o with
  | none => rfl
  | some y => exact congrArg some (value y rfl)

theorem modeOf_code (m : Mode) : modeOf m.code.toNat = m := by cases m <;> rfl

theorem Mode.code_le (m : Mode) : m.code.toNat ≤ 3 := by cases m <;> decide

theorem sourceCode_le (x : Option Sense) : (sourceCode x).toNat ≤ 8 := by
  revert x
  decide

theorem sourceOf_code (x : Option Sense) : sourceOf (sourceCode x).toNat = x := by
  revert x
  decide

namespace Proposal.CarriedBy

variable {p : Proposal} {r : List Byte} (carried : p.CarriedBy r)
include carried

theorem fieldPresent_eq (i : Fin 8) : fieldPresent r i.val = p.presentSingles i := by
  rw [fieldPresent, carried.fields, p.presence_testBit]

theorem quotaPresent_eq (a : Agent) : quotaPresent r a = (p.quota.read a).isSome := by
  rw [quotaPresent, carried.quotas, presentSet_testBit]

theorem pairPresent_eq (i : Pair) : pairPresent r i = (p.pairSetup.read i).isSome := by
  rw [pairPresent, carried.pairSetups, presentSet_testBit]

theorem idlePresent_eq (d : Drive) : idlePresent r d = (p.idleLevel.read d).isSome := by
  rw [idlePresent, carried.idleLevels, presentSet_testBit]

/-- The value of a single field whose presence bit is set. -/
theorem exists_of_fieldPresent {α : Type} {o : Option α} (i : Fin 8) (field : p.presentSingles i = o.isSome)
    (bit : fieldPresent r i.val = true) : ∃ x, o = some x := by
  rw [carried.fieldPresent_eq i, field] at bit
  exact Option.isSome_iff_exists.1 bit

variable (inRange : p.InRange)
include inRange

theorem periodAt_eq {k : Nat} (present : p.period = some k) : periodAt r = k := by
  have range := inRange.period k present
  have field := carried.period k present
  unfold periodAt
  split <;> omega

theorem pairSetupAt_eq {i : Pair} {x : PairSetup} (present : p.pairSetup.read i = some x) : pairSetupAt r i = x := by
  have range := inRange.guard i x present
  rw [pairSetupAt, carried.pairSetup i x present, x.word_testBit range, x.word_mod range]

theorem proposalOf_eq : proposalOf r = p := by
  have period : whenPresent (fieldPresent r 7) (periodAt r) = p.period :=
    whenPresent_eq (carried.fieldPresent_eq 7) fun _ => carried.periodAt_eq inRange
  have divider : whenPresent (fieldPresent r 6) (halfAt r 7) = p.divider :=
    whenPresent_eq (carried.fieldPresent_eq 6) carried.divider
  have mode : whenPresent (fieldPresent r 5) (modeOf (byteAt r 9)) = p.mode :=
    whenPresent_eq (carried.fieldPresent_eq 5) fun m present => by rw [carried.mode m present, modeOf_code]
  have run : whenPresent (fieldPresent r 4) (if byteAt r 10 = 1 then RunField.run else .stop) = p.run :=
    whenPresent_eq (carried.fieldPresent_eq 4) fun f present => by
      rw [carried.run f present]
      cases f <;> rfl
  have budget : whenPresent (fieldPresent r 3) (halfAt r 11) = p.budget :=
    whenPresent_eq (carried.fieldPresent_eq 3) carried.budget
  have triggerSource : whenPresent (fieldPresent r 2) (sourceOf (byteAt r 13)) = p.triggerSource :=
    whenPresent_eq (carried.fieldPresent_eq 2) fun x present => by rw [carried.triggerSource x present, sourceOf_code]
  have gateSource : whenPresent (fieldPresent r 1) (sourceOf (byteAt r 14)) = p.gateSource :=
    whenPresent_eq (carried.fieldPresent_eq 1) fun x present => by rw [carried.gateSource x present, sourceOf_code]
  have timingFilter : whenPresent (fieldPresent r 0) (byteAt r 15) = p.timingFilter :=
    whenPresent_eq (carried.fieldPresent_eq 0) carried.timingFilter
  have quota : (Bank.build fun a => whenPresent (quotaPresent r a) (byteAt r (16 + a.val))) = p.quota :=
    Bank.ext_read fun a => (Bank.read_build _ a).trans (whenPresent_eq (carried.quotaPresent_eq a) (carried.quota a))
  have pairSetup : (Bank.build fun i => whenPresent (pairPresent r i) (pairSetupAt r i)) = p.pairSetup :=
    Bank.ext_read fun i => (Bank.read_build _ i).trans
      (whenPresent_eq (carried.pairPresent_eq i) fun _ => carried.pairSetupAt_eq inRange)
  have idleLevel : (Bank.build fun d =>
      whenPresent (idlePresent r d) (if (halfAt r 36).testBit d.val then Level.high else .low)) = p.idleLevel :=
    Bank.ext_read fun d => (Bank.read_build _ d).trans
      (whenPresent_eq (carried.idlePresent_eq d) fun l present => by
        rw [carried.idleLevel d l present]
        cases l <;> rfl)
  rw [proposalOf, period, divider, mode, run, budget, triggerSource, gateSource, timingFilter, quota, pairSetup,
    idleLevel]

theorem rangeFault_eq_none : rangeFault r = none := by
  have period : ¬ ((byteAt r 0).testBit 7 = true ∧ halfAt r 5 = 1) := by
    rintro ⟨bit, beyond⟩
    obtain ⟨k, present⟩ := carried.exists_of_fieldPresent 7 rfl bit
    have range := inRange.period k present
    have field := carried.period k present
    omega
  have divider : ¬ ((byteAt r 0).testBit 6 = true ∧ (halfAt r 7 = 0 ∨ 4096 < halfAt r 7)) := by
    rintro ⟨bit, beyond⟩
    obtain ⟨k, present⟩ := carried.exists_of_fieldPresent 6 rfl bit
    have range := inRange.divider k present
    have field := carried.divider k present
    omega
  have mode : ¬ ((byteAt r 0).testBit 5 = true ∧ 3 < byteAt r 9) := by
    rintro ⟨bit, beyond⟩
    obtain ⟨m, present⟩ := carried.exists_of_fieldPresent 5 rfl bit
    rw [carried.mode m present] at beyond
    exact absurd m.code_le (not_le.2 beyond)
  have triggerSource : ¬ ((byteAt r 0).testBit 2 = true ∧ 8 < byteAt r 13) := by
    rintro ⟨bit, beyond⟩
    obtain ⟨x, present⟩ := carried.exists_of_fieldPresent 2 rfl bit
    rw [carried.triggerSource x present] at beyond
    exact absurd (sourceCode_le x) (not_le.2 beyond)
  have gateSource : ¬ ((byteAt r 0).testBit 1 = true ∧ 8 < byteAt r 14) := by
    rintro ⟨bit, beyond⟩
    obtain ⟨x, present⟩ := carried.exists_of_fieldPresent 1 rfl bit
    rw [carried.gateSource x present] at beyond
    exact absurd (sourceCode_le x) (not_le.2 beyond)
  have timingFilter : ¬ ((byteAt r 0).testBit 0 = true ∧ 15 < byteAt r 15) := by
    rintro ⟨bit, beyond⟩
    obtain ⟨k, present⟩ := carried.exists_of_fieldPresent 0 rfl bit
    rw [carried.timingFilter k present] at beyond
    exact absurd (inRange.timingFilter k present) (not_le.2 beyond)
  have quota : ¬ ∃ a : Agent, (byteAt r 1).testBit a.val = true ∧ 128 < byteAt r (16 + a.val) := by
    rintro ⟨a, bit, beyond⟩
    obtain ⟨k, present⟩ := Option.isSome_iff_exists.1 ((carried.quotaPresent_eq a).symm.trans bit)
    rw [carried.quota a k present] at beyond
    exact absurd (inRange.quota a k present) (not_le.2 beyond)
  have run : ¬ ((byteAt r 0).testBit 4 = true ∧ byteAt r 10 ≠ 1 ∧ byteAt r 10 ≠ 2) := by
    rintro ⟨bit, notRun, notStop⟩
    obtain ⟨f, present⟩ := carried.exists_of_fieldPresent 4 rfl bit
    rw [carried.run f present] at notRun notStop
    cases f
    · exact notRun rfl
    · exact notStop rfl
  rw [rangeFault_eq, if_neg period, if_neg divider, if_neg mode, if_neg triggerSource, if_neg gateSource,
    if_neg timingFilter, if_neg quota, if_neg run]

theorem unusedBitSet_eq_false : unusedBitSet r = false := by
  have quotas := setBits_lt (presentSet p.quota)
  have none : byteAt r 1 / 16 = 0 := by
    rw [carried.quotas]
    omega
  have clear (i : Pair) (bit : pairPresent r i = true) : pairUnusedBits r i = 0 := by
    rw [carried.pairPresent_eq i] at bit
    obtain ⟨x, present⟩ := Option.isSome_iff_exists.1 bit
    rw [pairUnusedBits, carried.pairSetup i x present, x.word_unused (inRange.guard i x present)]
  simpa [unusedBitSet, none] using clear

end Proposal.CarriedBy

/-- Settles O10: the bytes of a proposal carry it, and what is read of a record is what it carries. -/
theorem settingsRecordsRoundTrip : Obligations.SettingsRecordsRoundTrip := by
  unfold Obligations.SettingsRecordsRoundTrip
  intro tag p period divider budget timingFilter quota guard
  have inRange : p.InRange := ⟨period, divider, budget, timingFilter, quota, guard⟩
  have carried := inRange.carriedBy_bytes tag
  exact ⟨p.bytes_length tag, carried.proposalOf_eq inRange, carried.rangeFault_eq_none inRange,
    carried.unusedBitSet_eq_false inRange⟩

end Sys2Proof.Machine
end

section
/-! SUPPORT. Notices offered to the sessions that go on (R154, R155), the attention line (R159), and READ_NOTICES (R156,
R157), for O51. -/

namespace Sys2Proof.Machine

/-! ## Notices offered (R154) and the attention line (R159) -/

theorem State.attention_iff (s : State) (a : Agent) : s.attention a = true ↔ (s.session a).notices ≠ [] := by
  rw [State.attention, Bool.not_eq_true', List.isEmpty_eq_false_iff]

theorem State.notifyEach_eq (s : State) (n : Cycle) (k : NoticeKind) (who : Agent → Bool) :
    s.notifyEach n k who = { s with
      sessions := Bank.build fun b =>
        if who b = true ∧ (s.session b).state.present = true then (s.session b).offer ⟨k, n⟩ else s.session b } := by
  simp only [State.notifyEach, Bool.and_eq_true]

/-! ## READ_NOTICES (R156, R157) -/

section

variable {s : State} {p : Agent} {k : Byte}

/-- A maximum in range is taken, and NOTICES_LOST is placed where a notice is read and some were lost. -/
theorem State.takeReadNotices_some (low : 1 ≤ k.toNat) (high : k.toNat ≤ 5) : s.takeReadNotices p [k] =
    if (s.session p).notices ≠ [] ∧ 0 < (s.session p).lostNotices then
      (s.setSession p
        { s.session p with
          notices := (s.session p).notices.drop k.toNat ++
            [⟨.noticesLost (s.session p).lostNotices ((s.session p).firstLoss.getD s.time.cycle), s.time.cycle⟩]
          lostNotices := 0
          firstLoss := none },
        ⟨.ok, .notices ((s.session p).notices.length - k.toNat + 1) true ((s.session p).notices.take k.toNat)⟩)
    else
      (s.setSession p { s.session p with notices := (s.session p).notices.drop k.toNat },
        ⟨.ok, .notices ((s.session p).notices.length - k.toNat) false ((s.session p).notices.take k.toNat)⟩) := by
  have maximum : byteAt [k] 0 = k.toNat := rfl
  have inRange : ¬ (k.toNat = 0 ∨ 5 < k.toNat) := by omega
  have reads : (s.session p).notices.take k.toNat = [] ↔ (s.session p).notices = [] := by
    rw [List.take_eq_nil_iff, or_iff_right (by omega)]
  have places : (!((s.session p).notices.take k.toNat).isEmpty && decide (0 < (s.session p).lostNotices)) = true ↔
      (s.session p).notices ≠ [] ∧ 0 < (s.session p).lostNotices := by
    rw [Bool.and_eq_true, Bool.not_eq_true', List.isEmpty_eq_false_iff, decide_eq_true_iff, ne_eq, reads]
  unfold State.takeReadNotices
  dsimp only
  rw [maximum, if_neg inRange, List.length_drop]
  exact if_congr places rfl rfl

theorem State.takeReadNotices_bad (bad : k.toNat = 0 ∨ 6 ≤ k.toNat) :
    s.takeReadNotices p [k] = (s, refuse .badArgument) := by
  unfold State.takeReadNotices
  exact if_pos bad

end

/-- Settles O51: an offer by the room of the queue, and the queue cut at the maximum, on the session as the renewed
lease leaves it. -/
theorem noticesJoinAreCountedAndRead : Obligations.NoticesJoinAreCountedAndRead := by
  unfold Obligations.NoticesJoinAreCountedAndRead
  refine ⟨fun q x => ⟨Session.offer_room x, Session.offer_full x⟩, State.attention_iff,
    fun s n k who a => ⟨s.notifyEach_eq n k who, rfl, rfl, rfl⟩, ?_⟩
  intro p tag k s accepts present
  have answers {t : State} {r : Reply} (takes : ((s.settle p).renewLease p).takeReadNotices p [k] = (t, r)) :
      exec (.readNotices p tag [k]) s = .next (t.respond p ⟨tag, 0x1A, r.status, r.data⟩) :=
    exec_answers (c := .readNotices) rfl accepts (List.mem_singleton.2 rfl)
      (AdmissionRow.whilePresent_refusal present) takes
  refine ⟨fun low high => ?_, fun bad => answers (State.takeReadNotices_bad bad)⟩
  have takes := State.takeReadNotices_some (s := (s.settle p).renewLease p) (p := p) low high
  rw [State.settled_session_self, Session.renew_notices] at takes
  refine ⟨fun nonePlaced => ?_, fun c nonempty lost first => ?_⟩
  · have unplaced : ¬ ((s.session p).notices ≠ [] ∧ 0 < (s.session p).renew.lostNotices) := by
      rw [Session.renew_lostNotices]
      rintro ⟨nonempty, lost⟩
      exact nonePlaced.elim nonempty lost.ne'
    rw [if_neg unplaced] at takes
    exact answers takes
  · rw [Session.renew_lostNotices, Session.renew_firstLoss, if_pos ⟨nonempty, lost⟩, first, Option.getD_some] at takes
    exact answers takes

end Sys2Proof.Machine
end

section
/-! SUPPORT. The step (O1) and device reset (O2). -/

namespace Sys2Proof.Machine

/-- Settles O1: by whether a command waits. -/
theorem stepRunsFrontCommand : Obligations.StepRunsFrontCommand := by
  unfold Obligations.StepRunsFrontCommand
  refine ⟨fun c rest s => rfl, fun s empty => ?_⟩
  rw [step, empty]

/-! ## Device reset and its release (R170) -/

theorem exec_resetRelease_low {s : State} (low : s.resetLow = true) : exec .resetRelease s = .next
    { s with
      resetLow := false
      ports := Bank.build fun p =>
        { s.port p with transaction := if (s.port p).selected then .ignored else .idle } } :=
  congrArg Host.Outcome.next (if_pos low)

theorem exec_resetRelease_high {s : State} (high : s.resetLow = false) : exec .resetRelease s = .next s :=
  congrArg Host.Outcome.next (if_neg (by rw [high]; exact Bool.false_ne_true))

@[simp] theorem State.reset_senseLine (i : Sense) : State.reset.senseLine i = .reset := Bank.read_fill _ i

/-- No session waits to be read after reset, so no attention line is asserted. -/
theorem State.reset_attention (a : Agent) : State.reset.attention a = false := by
  rw [State.attention, State.reset_session]
  rfl

/-- Every line is DEASSERTED after reset, at its idle level. -/
theorem State.reset_pin (d : Drive) : State.reset.pin d = .low := by
  rw [State.pin, State.reset_line]
  exact Bank.read_fill _ d

/-- Settles O2: each block has its reset value by definition, read at each index of a bank that is filled with it. -/
theorem deviceResetGivesResetValues : Obligations.DeviceResetGivesResetValues := by
  unfold Obligations.DeviceResetGivesResetValues
  refine ⟨fun s => rfl, fun s => exec_resetRelease_low, fun s => exec_resetRelease_high,
    ⟨rfl, rfl, rfl, rfl, rfl, rfl, rfl, Bank.read_fill _, Bank.read_fill _, Bank.read_fill _⟩, rfl, rfl,
    State.reset_driveOwner, State.reset_senseOwner, State.reset_line, fun i => ?sense, fun a => ?session,
    fun p => ?port, State.reset_attention, State.reset_pin⟩
  case sense =>
    rw [State.reset_senseLine]
    exact ⟨rfl, rfl, rfl, rfl, rfl, rfl⟩
  case session =>
    rw [State.reset_session]
    exact ⟨rfl, rfl, rfl, rfl, rfl, rfl, rfl, rfl, rfl, Bank.read_fill _, rfl, rfl, rfl, rfl, rfl⟩
  case port =>
    rw [State.reset_port]
    exact ⟨rfl, rfl, rfl, rfl, rfl⟩

end Sys2Proof.Machine
end

section
/-! SUPPORT. Bytes shifted in and out of a port whose SELn_N has been seen low (R162 to R165, R167, R171), for O59. -/

namespace Sys2Proof.Machine

/-! ## A byte shifted, by where the transaction stands -/

section

variable {s : State} {p : Agent} (live : s.live = true) (pin : (s.port p).selected = true) (v : Byte)
include live pin

theorem exec_byteShifted (stands : (s.port p).transaction ≠ .idle) :
    exec (.byteShifted p v) s = .next (s.moveByte p v) :=
  congrArg Host.Outcome.next (State.shiftByte_seen v live pin stands)

/-- The status byte goes out. -/
theorem exec_byteShifted_status {b : Byte} (status : (s.port p).transaction = .status b) :
    exec (.byteShifted p v) s = .next (s.setPort p ((s.port p).statusOut b)) := by
  rw [exec_byteShifted live pin v (by simp [status]), State.moveByte, status]

/-- The transaction byte is taken, as the rows of the transaction bytes take it. -/
theorem exec_byteShifted_command (command : (s.port p).transaction = .command) :
    exec (.byteShifted p v) s = exec (.peek p v) s := by
  rw [exec_byteShifted live pin v (by simp [command]), State.moveByte, command]
  exact congrArg Host.Outcome.next (State.transactionByte_command live pin command v).symm

theorem exec_byteShifted_receiving {frame : List Byte} (receiving : (s.port p).transaction = .receiving frame) :
    exec (.byteShifted p v) s = .next (s.receiveByte p frame v) := by
  rw [exec_byteShifted live pin v (by simp [receiving]), State.moveByte, receiving]

theorem exec_byteShifted_sending {k : Nat} (sending : (s.port p).transaction = .sending k) :
    exec (.byteShifted p v) s = .next (s.setPort p ((s.port p).sendByte k)) := by
  rw [exec_byteShifted live pin v (by simp [sending]), State.moveByte, sending]

theorem exec_byteShifted_marker {k : Nat} (marker : (s.port p).transaction = .marker k) :
    exec (.byteShifted p v) s = .next (s.setPort p ((s.port p).markByte k)) := by
  rw [exec_byteShifted live pin v (by simp [marker]), State.moveByte, marker]

/-- Past the action, bytes are ignored and filler goes out. -/
theorem exec_byteShifted_done (done : (s.port p).transaction = .done) :
    exec (.byteShifted p v) s = .next (s.setPort p { s.port p with shiftedOut := some 0 }) := by
  rw [exec_byteShifted live pin v (by simp [done]), State.moveByte, done]
  rfl

theorem exec_byteShifted_ignored (ignored : (s.port p).transaction = .ignored) :
    exec (.byteShifted p v) s = .next s := by
  rw [exec_byteShifted live pin v (by simp [ignored]), State.moveByte, ignored]

end

/-! ## A byte received (R164, R165) -/

section

variable {s : State} {p : Agent} {frame : List Byte} {v : Byte}

theorem byteAt_append_left (inside : 2 < frame.length) : byteAt (frame ++ [v]) 2 = byteAt frame 2 := by
  rw [byteAt, byteAt, List.getD_append _ _ _ _ inside]

theorem byteAt_append_last (length : frame.length = 2) : byteAt (frame ++ [v]) 2 = v.toNat := by
  rw [byteAt, List.getD_append_right _ _ _ _ length.le, length]
  rfl

/-- A frame of which bytes are still to come, as far as its length byte tells, goes on. -/
theorem State.receiveByte_partial
    (goesOn : frame.length < 2 ∨ byteAt (frame ++ [v]) 2 ≤ 60 ∧ frame.length < 2 + byteAt (frame ++ [v]) 2) :
    s.receiveByte p frame v =
      s.setPort p { s.port p with transaction := .receiving (frame ++ [v]), shiftedOut := some 0 } := by
  unfold State.receiveByte
  dsimp only
  rw [List.length_append, List.length_singleton]
  rcases goesOn with header | ⟨fits, short⟩
  · rw [if_pos (by omega)]
    rfl
  · have within : ¬ Config.payloadLimit < byteAt (frame ++ [v]) 2 := not_lt.2 fits
    rw [if_neg within, if_pos (show frame.length + 1 < 3 + _ by omega), ite_self]
    rfl

/-- A length above 60 is OVERLENGTH as soon as it has come. -/
theorem State.receiveByte_overlength (length : frame.length = 2) (beyond : 61 ≤ v.toNat) :
    s.receiveByte p frame v =
      s.setPort p { s.port p with transaction := .done, error := .overlength, shiftedOut := some 0 } := by
  have above : Config.payloadLimit < byteAt (frame ++ [v]) 2 := by
    rw [byteAt_append_last length]
    exact beyond
  unfold State.receiveByte
  dsimp only
  rw [List.length_append, List.length_singleton, length, if_neg (by decide), if_pos above]
  simp only [State.latch, State.settle, State.port_setPort, if_true, State.setPort_setPort]
  rfl

/-- With its last byte a frame is handed on. -/
theorem State.receiveByte_last {code tag : Byte} {bs : List Byte} (fits : bs.length ≤ 60)
    (complete : frame ++ [v] = code :: tag :: BitVec.ofNat 8 bs.length :: bs) : s.receiveByte p frame v =
      (s.setPort p { s.port p with transaction := .receiving (frame ++ [v]), shiftedOut := some 0 }).deliverFrame p
        code tag bs := by
  have announced : byteAt (code :: tag :: BitVec.ofNat 8 bs.length :: bs) 2 = bs.length := toNat_byte (by omega)
  have within : ¬ Config.payloadLimit < bs.length := not_lt.2 fits
  unfold State.receiveByte
  dsimp only
  rw [complete, announced, if_neg (by simp), if_neg within, if_neg (by simp; omega)]
  rfl

/-- A frame handed on completes its transaction, so how much of it stood as the partial frame does not matter. -/
theorem State.deliverFrame_congr {x y : Port} (settled : { x with transaction := x.transaction.settled } =
      { y with transaction := y.transaction.settled }) (code tag : Byte) (bs : List Byte) :
    (s.setPort p x).deliverFrame p code tag bs = (s.setPort p y).deliverFrame p code tag bs := by
  have same : (s.setPort p x).settle p = (s.setPort p y).settle p := by
    simp only [State.settle, State.port_setPort, if_true, State.setPort_setPort, settled]
  have responses : x.responses = y.responses := (congrArg Port.responses settled :)
  simp only [State.deliverFrame, same, State.port_setPort, if_true, responses]

/-- A frame's row in a transaction that can carry it delivers the frame. -/
theorem State.takeFrame_setPort {x : Port} (live : s.live = true) (pin : x.selected = true)
    (stands : x.transaction ≠ .idle) (listens : x.transaction.awaitsFrame = true) (code tag : Byte) (bs : List Byte) :
    (s.setPort p x).takeFrame p code tag bs = (s.setPort p x).deliverFrame p code tag bs := by
  have there : (s.setPort p x).port p = x := by simp
  rw [State.takeFrame_seen (s := s.setPort p x) _ _ _ live (by simp [there, pin, stands]), State.offerFrame, there,
    if_pos listens]

/-- The last byte of a frame is the frame's row, with filler shifted out. -/
theorem exec_byteShifted_last {i : Instr} {f : Frame} (live : s.live = true)
    (pin : (s.port f.port).selected = true) (receiving : (s.port f.port).transaction = .receiving frame)
    (row : i.frame? = some f) (fits : f.payload.length ≤ 60)
    (complete : frame ++ [v] = f.code :: f.tag :: BitVec.ofNat 8 f.payload.length :: f.payload) :
    exec (.byteShifted f.port v) s = exec i (s.setPort f.port { s.port f.port with shiftedOut := some 0 }) := by
  rw [exec_byteShifted_receiving live pin v receiving, State.receiveByte_last fits complete, exec_frame row,
    State.takeFrame_setPort (x := { s.port f.port with shiftedOut := some 0 }) live pin (by simp [receiving])
      (by rw [receiving]; rfl)]
  exact congrArg Host.Outcome.next (State.deliverFrame_congr (by rw [receiving]; rfl) _ _ _)

end

/-! ## A byte sent (R167, R171) -/

section

variable {x : Port} {k : Nat} {r : Response} {rest : List Response} (head : x.responses = r :: rest)
include head

theorem Port.sendByte_inside (inside : k + 1 < r.bytes.length) : x.sendByte k =
    { x with transaction := .sending (k + 1), shiftedOut := some (r.bytes.getD k 0) } := by
  rw [Port.sendByte, head]
  exact if_pos inside

theorem Port.sendByte_last (last : r.bytes.length ≤ k + 1) : x.sendByte k =
    { x with transaction := .done, responses := rest, shiftedOut := some (r.bytes.getD k 0) } := by
  rw [Port.sendByte, head]
  exact if_neg (not_lt.2 last)

end

/-- The bytes of the empty-response marker: 00H 00H FFH 00H. -/
theorem emptyMarker_getD {k : Nat} (inside : k < 4) : emptyMarker.getD k filler = if k = 2 then 0xFF else 0 := by
  revert k
  decide

theorem Port.markByte_eq (x : Port) {k : Nat} (inside : k < 4) : x.markByte k =
    { x with
      transaction := if k < 3 then .marker (k + 1) else .done
      shiftedOut := some (if k = 2 then 0xFF else 0) } := by
  have more : k + 1 < emptyMarker.length ↔ k < 3 := Nat.succ_lt_succ_iff
  simp only [Port.markByte, emptyMarker_getD inside, more]

/-- Settles O59: the byte of each stage of the transaction, on a port whose SELn_N has been seen low. -/
theorem bytesShiftInAndOut : Obligations.BytesShiftInAndOut := by
  unfold Obligations.BytesShiftInAndOut
  intro p v s live seen
  have low (stands : (s.port p).transaction ≠ .idle) : (s.port p).selected = true := seen.resolve_right stands
  refine ⟨fun b status => ?status, fun command => ?command, fun frame receiving => ?receiving,
    fun k r rest sending head => ?sending, fun k marker inside => ?marker,
    fun done => exec_byteShifted_done live (low (by simp [done])) v done,
    fun ignored => exec_byteShifted_ignored live (low (by simp [ignored])) v ignored,
    fun idle high => congrArg Host.Outcome.next (State.shiftByte_idle v high idle)⟩
  case status =>
    rw [exec_byteShifted_status live (low (by simp [status])) v status, Port.statusOut_eq]
  case command =>
    have taken := exec_byteShifted_command live (low (by simp [command])) v command
    exact ⟨fun send => by subst send; exact taken, fun fetch => by subst fetch; exact taken,
      fun reset => by subst reset; exact taken, fun _ _ _ => taken⟩
  case receiving =>
    have pin := low (by simp [receiving])
    refine ⟨fun goesOn => ?_, fun length beyond => ?_, fun i f row port fits complete => ?_⟩
    · rw [exec_byteShifted_receiving live pin v receiving, State.receiveByte_partial]
      rcases goesOn with header | ⟨length, more, fits⟩ | ⟨inside, fits, short⟩
      · exact .inl header
      · rw [byteAt_append_last length]
        exact .inr ⟨fits, by omega⟩
      · rw [byteAt_append_left inside]
        exact .inr ⟨fits, short⟩
    · rw [exec_byteShifted_receiving live pin v receiving, State.receiveByte_overlength length beyond]
    · subst port
      exact exec_byteShifted_last live pin receiving row fits complete
  case sending =>
    rw [exec_byteShifted_sending live (low (by simp [sending])) v sending]
    exact ⟨fun inside => by rw [Port.sendByte_inside head inside], fun last => by rw [Port.sendByte_last head last]⟩
  case marker =>
    rw [exec_byteShifted_marker live (low (by simp [marker])) v marker, Port.markByte_eq _ inside]

end Sys2Proof.Machine
end

section
/-! SUPPORT. Response frames byte by byte (R166, R172, sections 11.1, 11.2 and 11.4), for O60: the field encodings, the
records, the payloads, and how long each can be. -/

namespace Sys2Proof.Machine

/-! ## Fields (section 11.2) -/

/-- A cycle number byte by byte. -/
theorem cycleBytes_eq_extract (c : Cycle) : cycleBytes c =
    [c.extractLsb' 24 8, c.extractLsb' 16 8, c.extractLsb' 8 8, c.extractLsb' 0 8] := by
  simp [cycleBytes, byte, BitVec.extractLsb', Nat.shiftRight_eq_div_pow]

theorem driveSetBytes_testBit (b : Bank Bool 16) (d : Drive) :
    (256 * byteAt (driveSetBytes b) 0 + byteAt (driveSetBytes b) 1).testBit d.val = b.read d := by
  have value : 256 * byteAt (driveSetBytes b) 0 + byteAt (driveSetBytes b) 1 = setBits b := half_value (setBits_lt b)
  rw [value, setBits_testBit]

theorem smallSetByte_getLsbD {n : Nat} (small : n ≤ 8) (b : Bank Bool n) (i : Fin n) :
    (smallSetByte b).getLsbD i.val = b.read i := by
  have inside : i.val < 8 := i.isLt.trans_le small
  rw [smallSetByte, byte, BitVec.getLsbD_ofNat, setBits_testBit, decide_eq_true inside, Bool.true_and]

theorem cadenceBytes_eq (c : Option Cadence) : cadenceBytes c =
    match c with
    | none => [0, 0]
    | some x => [BitVec.ofNat 8 x.interval, BitVec.ofNat 8 x.phase] := by
  cases c <;> rfl

/-! ## The settings record (section 11.4) -/

/-- An entry whose action has no width holds 0000H in its place. -/
theorem Entry.bytes_of_no_width (e : Entry) (noWidth : e.action.width = 0) : e.bytes =
    [byte e.handle, e.target.code, e.action.code] ++ half e.offset ++ [0, 0] ++ cadenceBytes e.cadence
      ++ [e.action.label] := by
  have widths : half e.action.width = [0, 0] := by
    rw [noWidth]
    rfl
  rw [← widths]
  rfl

/-- Two bytes that stand one behind the other. -/
theorem take_two_drop_of_getElem? {α : Type} {l : List α} {i : Nat} {x y : α} (first : l[i]? = some x)
    (second : l[i + 1]? = some y) : (l.drop i).take 2 = [x, y] := by
  obtain ⟨inside, rfl⟩ := List.getElem?_eq_some_iff.1 first
  obtain ⟨inside', rfl⟩ := List.getElem?_eq_some_iff.1 second
  rw [List.drop_eq_getElem_cons inside, List.drop_eq_getElem_cons inside']
  rfl

namespace Proposal

variable (tag : Byte) (p : Proposal)

/-- The presence bits and the single fields stand in front. -/
theorem getElem?_bytes_single {i : Nat} {b : Byte} (stands : (p.singleBytes tag)[i]? = some b) :
    (p.bytes tag)[i]? = some b := by
  obtain ⟨inside, -⟩ := List.getElem?_eq_some_iff.1 stands
  rw [p.bytes_eq tag, List.getElem?_append_left inside, stands]

/-- A single field of two bytes. -/
theorem half_bytes_single {i n : Nat} (high : (p.singleBytes tag)[i]? = some (byte (n / 256)))
    (low : (p.singleBytes tag)[i + 1]? = some (byte n)) : ((p.bytes tag).drop i).take 2 = half n :=
  take_two_drop_of_getElem? (p.getElem?_bytes_single tag high) (p.getElem?_bytes_single tag low)

theorem byteAt_bytes_presence : byteAt (p.bytes tag) 0 = p.presence :=
  (byteAt_of_getElem? (p.getElem?_bytes_single tag rfl)).trans (toNat_byte p.presence_lt)

theorem presence_bits (i : Fin 8) : (byteAt (p.bytes tag) 0).testBit i.val = p.presentSingles i := by
  rw [p.byteAt_bytes_presence, p.presence_testBit]

theorem quota_bits (a : Agent) : (byteAt (p.bytes tag) 1).testBit a.val = (p.quota.read a).isSome := by
  have value : byteAt (p.bytes tag) 1 = setBits (presentSet p.quota) :=
    (byteAt_of_getElem? (p.getElem?_bytes_single tag rfl)).trans (toNat_byte ((setBits_lt _).trans (by decide)))
  rw [value, presentSet_testBit]

theorem pairSetup_bits (k : Pair) : (byteAt (p.bytes tag) 2).testBit k.val = (p.pairSetup.read k).isSome := by
  have value : byteAt (p.bytes tag) 2 = setBits (presentSet p.pairSetup) :=
    (byteAt_of_getElem? (p.getElem?_bytes_single tag rfl)).trans (toNat_byte (setBits_lt _))
  rw [value, presentSet_testBit]

theorem idleLevel_bits (d : Drive) : (halfAt (p.bytes tag) 3).testBit d.val = (p.idleLevel.read d).isSome := by
  have value : halfAt (p.bytes tag) 3 = setBits (presentSet p.idleLevel) :=
    (halfAt_of_getElem? (p.getElem?_bytes_single tag rfl) (p.getElem?_bytes_single tag rfl)).trans
      (half_value (setBits_lt _))
  rw [value, presentSet_testBit]

/-- A quota stands at its place, whatever its value. -/
theorem getElem?_bytes_quota {a : Agent} {n : Nat} (present : p.quota.read a = some n) :
    (p.bytes tag)[16 + a.val]? = some (byte n) := by
  have quotas : (p.quotaBytes tag)[a.val]? = some (fieldByte tag (16 + a.val) byte (p.quota.read a)) := by
    fin_cases a <;> rfl
  obtain ⟨inside, -⟩ := List.getElem?_eq_some_iff.1 quotas
  rw [p.bytes_eq tag, getElem?_append_add (k := 16) rfl, List.getElem?_append_left inside, quotas, present]
  rfl

/-- A pair setup stands at its place, whatever its value. -/
theorem half_bytes_pairSetup {k : Pair} {x : PairSetup} (present : p.pairSetup.read k = some x) :
    ((p.bytes tag).drop (20 + 2 * k.val)).take 2 = half x.word := by
  have place (j : Nat) : (p.bytes tag)[20 + j]? = (p.pairBytes tag ++ idleBits tag p.idleLevel)[j]? := by
    rw [p.bytes_eq tag, ← List.append_assoc]
    exact getElem?_append_add rfl _ j
  obtain ⟨high, low⟩ := getElem?_finRange_flatMap_pair
    (fun i : Pair => fieldByte tag (20 + 2 * i.val) (fun x => byte (PairSetup.word x / 256)) (p.pairSetup.read i))
    (fun i => fieldByte tag (20 + 2 * i.val + 1) (fun x => byte (PairSetup.word x)) (p.pairSetup.read i))
    k (idleBits tag p.idleLevel)
  rw [take_two_drop_of_getElem? ((place _).trans high) ((place _).trans low), present]
  rfl

end Proposal

/-! ## The current record, with every field present (R151) -/

theorem presentSet_some {α : Type} {n : Nat} (f : Fin n → α) :
    presentSet (Bank.build fun i => some (f i)) = Bank.fill n true :=
  Bank.ext_read fun i => by rw [presentSet, Bank.read_build, Bank.read_build, Bank.read_fill]; rfl

/-- Where every line has an idle level, no bit is free. -/
theorem idleBits_some (tag : Byte) (f : Drive → Level) :
    idleBits tag (Bank.build fun d => some (f d)) = driveSetBytes (Bank.build fun d => f d == .high) := by
  simp only [idleBits, Bank.read_build]

theorem Settings.full_bytes (tag : Byte) (st : Settings) (r : RunField) : (st.full r).bytes tag =
    [0xFF, 0x0F, 0xFF, 0xFF, 0xFF] ++ half (st.period % 65536) ++ half st.divider ++ [st.mode.code, r.code]
      ++ half st.budget ++ [sourceCode st.triggerSource, sourceCode st.gateSource, byte st.timingFilter]
      ++ (List.finRange 4).map (fun a => byte (st.quota.read a))
      ++ (List.finRange 8).flatMap (fun k => half (st.pairSetup.read k).word)
      ++ driveSetBytes (Bank.build fun d => st.idleLevel.read d == .high) := by
  have masks : [byte (st.full r).presence, smallSetByte (Bank.fill 4 true), smallSetByte (Bank.fill 8 true)]
      ++ driveSetBytes (Bank.fill 16 true) = [0xFF, 0x0F, 0xFF, 0xFF, 0xFF] := by
    rw [show (st.full r).presence = 255 from rfl]
    decide
  have quotas : (List.finRange 4).flatMap (fun a => [byte (st.quota.read a)]) =
      (List.finRange 4).map fun a => byte (st.quota.read a) := List.map_eq_flatMap.symm
  rw [← masks, ← quotas, ← idleBits_some tag]
  simp only [Proposal.bytes, Settings.full, presentSet_some, fieldBytes, Bank.read_build]
  rfl

/-! ## Optional parts of a payload -/

/-- A line report byte by byte: a deferred assert in 8 bytes, of which an absent one has FFH for its kind (R116). -/
theorem LineReport.bytes_eq (tag : Byte) (yes : Bool) (forcing : Forcing) (pulse : Option Nat)
    (deferral : Option Deferred) (n : Nat) (setup : PairSetup) :
    LineReport.bytes tag ⟨⟨yes, forcing, pulse, deferral, n⟩, setup⟩ =
      [if yes then 1 else 0, forcing.code]
        ++ (match pulse with
          | none => [0, 0]
          | some m => half m)
        ++ (match deferral with
          | none => 0xFF :: half 0 ++ 0 :: (List.range 4).map (Config.absentByte tag)
          | some ⟨.assert, c⟩ => 0 :: half 0 ++ 1 :: cycleBytes c
          | some ⟨.pulse w, c⟩ => 1 :: half w ++ 1 :: cycleBytes c)
        ++ half n ++ [if setup.interlock then 1 else 0] ++ half setup.guard := by
  have lasts : half (pulse.getD 0) = match pulse with
      | none => [0, 0]
      | some m => half m := by
    cases pulse <;> rfl
  have deferred : deferredBytes tag deferral = match deferral with
      | none => 0xFF :: half 0 ++ 0 :: (List.range 4).map (Config.absentByte tag)
      | some ⟨.assert, c⟩ => 0 :: half 0 ++ 1 :: cycleBytes c
      | some ⟨.pulse w, c⟩ => 1 :: half w ++ 1 :: cycleBytes c := by
    match deferral with
    | none => rfl
    | some ⟨.assert, c⟩ => rfl
    | some ⟨.pulse w, c⟩ => rfl
  rw [LineReport.bytes, lasts, deferred]
  rfl

section

variable (tag : Byte) (q : Half) (last : Option LastResult)

/-- In EMPTY no field is present, no agent is named and no line is locked (log entry 22). -/
theorem Ballot.bytes_empty : Ballot.bytes tag ⟨q, .empty, last⟩ =
    0 :: half q.toNat ++ lastBytes last ++ 0xFF :: Proposal.blank.bytes tag ++ [0xFF, 0xFF, 0xFF, 0xFF, 0, 0] := by
  have absent : [0xFF, 0xFF] ++ half 0xFFFF ++ driveSetBytes (emptySet 16) = [0xFF, 0xFF, 0xFF, 0xFF, 0, 0] := by decide
  rw [← absent, Ballot.bytes]
  simp only [← List.append_assoc]
  rfl

theorem Ballot.bytes_openSlot (b : OpenBallot) : Ballot.bytes tag ⟨q, .openSlot b, last⟩ =
    1 :: half q.toNat ++ lastBytes last ++ byte b.proposer.val :: b.proposal.bytes tag
      ++ [smallSetByte b.electorate, smallSetByte b.accepted] ++ half b.deadline
      ++ driveSetBytes b.proposal.lockSet := by
  rw [Ballot.bytes]
  simp only [← List.append_assoc]
  rfl

/-- In PASSED no electors are named and no deadline stands (log entry 22). -/
theorem Ballot.bytes_passed (a : Agent) (p : Proposal) : Ballot.bytes tag ⟨q, .passed a p, last⟩ =
    2 :: half q.toNat ++ lastBytes last ++ byte a.val :: p.bytes tag ++ [0xFF, 0xFF, 0xFF, 0xFF]
      ++ driveSetBytes p.lockSet := by
  have absent : ([0xFF, 0xFF, 0xFF, 0xFF] : List Byte) = [0xFF, 0xFF] ++ half 0xFFFF := by decide
  rw [absent, Ballot.bytes]
  simp only [← List.append_assoc]
  rfl

end

/-- A list last in a payload: the number of its items, then the items. -/
theorem append_listBytes {α : Type} (front : List Byte) (f : α → List Byte) (xs : List α) :
    front ++ listBytes f xs = front ++ half xs.length ++ xs.flatMap f := (List.append_assoc _ _ _).symm

/-! ## How long the parts of a payload are -/

@[simp] theorem half_length (n : Nat) : (half n).length = 2 := rfl

@[simp] theorem cycleBytes_length (c : Cycle) : (cycleBytes c).length = 4 := rfl

@[simp] theorem driveSetBytes_length (b : Bank Bool 16) : (driveSetBytes b).length = 2 := rfl

@[simp] theorem lineSetsBytes_length (x : LineSets) : (lineSetsBytes x).length = 3 := rfl

@[simp] theorem optionCycle_length (tag : Byte) (x : Option Cycle) : (optionCycle tag x).length = 5 := by
  cases x <;> rfl

@[simp] theorem optionBallot_length (tag : Byte) (x : Option Half) : (optionBallot tag x).length = 3 := by
  cases x <;> rfl

@[simp] theorem optionHalf_length (x : Option Nat) : (optionHalf x).length = 2 := by
  cases x <;> rfl

@[simp] theorem Bound.bytes_length (tag : Byte) (b : Bound) : (b.bytes tag).length = 5 := by
  simp [Bound.bytes]

@[simp] theorem PeriodLimit.bytes_length (tag : Byte) (x : PeriodLimit) : (x.bytes tag).length = 5 := by
  simp [PeriodLimit.bytes, periodBytes]

@[simp] theorem Entry.bytes_length (e : Entry) : e.bytes.length = 10 := by
  have cadence : (cadenceBytes e.cadence).length = 2 := by cases e.cadence <;> rfl
  simp [Entry.bytes, EntryFields.bytes, Entry.fields, cadence]

@[simp] theorem CaptureRecord.bytes_length (r : CaptureRecord) : r.bytes.length = 11 := by
  obtain ⟨kind, q, c, n⟩ := r
  cases kind <;> rfl

@[simp] theorem BallotResult.bytes_length (r : BallotResult) : r.bytes.length = 3 := by
  match r with
  | .passed => rfl
  | .failed (.rejected a) => rfl
  | .failed .withdrawn => rfl
  | .failed .deadline => rfl
  | .failed .proposerGone => rfl

theorem NoticeKind.data_length_le (k : NoticeKind) : k.data.length ≤ 6 := by
  cases k <;> simp [NoticeKind.data]

@[simp] theorem Notice.bytes_length (x : Notice) : x.bytes.length = 11 := by
  have fits := x.kind.data_length_le
  simp only [Notice.bytes, List.length_cons, List.length_append, List.length_replicate, cycleBytes_length]
  omega

@[simp] theorem deferredBytes_length (tag : Byte) (x : Option Deferred) : (deferredBytes tag x).length = 8 := by
  match x with
  | none => rfl
  | some ⟨.assert, c⟩ => rfl
  | some ⟨.pulse w, c⟩ => rfl

@[simp] theorem LineReport.bytes_length (tag : Byte) (r : LineReport) : (r.bytes tag).length = 17 := by
  simp [LineReport.bytes]

theorem EntryFault.bytes_length_le (tag : Byte) (x : EntryFault) : (x.bytes tag).length ≤ 8 := by
  cases x <;> simp [EntryFault.bytes]

theorem SettingFault.bytes_length (x : SettingFault) : x.bytes.length = 2 := by
  cases x <;> rfl

theorem lastBytes_length_le (x : Option LastResult) : (lastBytes x).length ≤ 6 := by
  cases x <;> simp [lastBytes]

/-- A ballot is at most 55 bytes: the slot with its number 3, the last result 6, and the rest with a settings record
46. -/
theorem Ballot.bytes_length_le (tag : Byte) (b : Ballot) : (b.bytes tag).length ≤ 55 := by
  obtain ⟨number, slot, last⟩ := b
  have result := lastBytes_length_le last
  cases slot <;> simp [Ballot.bytes, Proposal.bytes_length] <;> omega

/-- A list of like records: two bytes for their number, and each record. -/
theorem listBytes_length {α : Type} {f : α → List Byte} {k : Nat} (each : ∀ x, (f x).length = k) (xs : List α) :
    (listBytes f xs).length = 2 + xs.length * k := by
  simp [listBytes, List.length_flatMap, each]

/-- A payload is at most 120 bytes, where its lists hold no more than a page or a maximum. -/
theorem Data.bytes_length_le (tag : Byte) (x : Data)
    (staged : ∀ commit n bound next entries, x = .stagedPage commit n bound next entries → entries.length ≤ 5)
    (active : ∀ a n applied next entries, x = .activePage a n applied next entries → entries.length ≤ 5)
    (captured : ∀ n lost m yes records, x = .captures n lost m yes records → records.length ≤ 6)
    (queued : ∀ n yes notices, x = .notices n yes notices → notices.length ≤ 5) : (x.bytes tag).length ≤ 120 := by
  cases x
  case stagedPage commit n bound next entries =>
    have page := staged commit n bound next entries rfl
    simp only [Data.bytes, List.length_append, List.length_cons, List.length_nil, half_length, Bound.bytes_length,
      listBytes_length Entry.bytes_length]
    omega
  case activePage a n applied next entries =>
    have page := active a n applied next entries rfl
    simp only [Data.bytes, List.length_append, List.length_cons, List.length_nil, half_length, optionCycle_length,
      listBytes_length Entry.bytes_length]
    omega
  case captures n lost m yes records =>
    have maximum := captured n lost m yes records rfl
    have losses : ((List.finRange 8).flatMap fun i => half (lost.read i)).length = 16 := rfl
    simp only [Data.bytes, List.length_append, List.length_cons, List.length_nil, half_length, losses,
      listBytes_length CaptureRecord.bytes_length]
    omega
  case notices n yes notices =>
    have maximum := queued n yes notices rfl
    simp only [Data.bytes, List.length_append, List.length_cons, List.length_nil, half_length,
      listBytes_length Notice.bytes_length]
    omega
  case entryFault fault => exact (fault.bytes_length_le tag).trans (by decide)
  case settingFault fault => exact fault.bytes_length.le.trans (by decide)
  case ballot b => exact (b.bytes_length_le tag).trans (by decide)
  case settings record field => exact ((record.full field).bytes_length tag).le.trans (by decide)
  all_goals simp [Data.bytes]

/-! ## The statement -/

/-- Settles O60: each field and record by the lemma that lays it out, the rest by the definition of its layout. -/
theorem responseFramesFollowTheLayouts : Obligations.ResponseFramesFollowTheLayouts := by
  unfold Obligations.ResponseFramesFollowTheLayouts
  refine ⟨fun r => rfl, rfl, ?enumerations, fun n => rfl, cycleBytes_eq_extract,
    fun b d => ⟨driveSetBytes_testBit b d, rfl⟩, smallSetByte_getLsbD le_rfl, smallSetByte_getLsbD (by decide),
    ?entries, ?settingsRecords, ?edges, fun label q c n => rfl, ?notices, ?payloads, Data.bytes_length_le⟩
  case enumerations =>
    exact ⟨rfl, rfl, rfl, rfl, rfl, rfl, rfl, rfl, fun i => rfl, rfl, rfl, rfl, fun c => rfl, rfl, rfl, rfl, rfl⟩
  case entries =>
    intro handle offset w label d i c cadence eq
    obtain rfl : cadence = cadenceBytes c := eq.trans (cadenceBytes_eq c).symm
    exact ⟨Entry.bytes_of_no_width _ rfl, Entry.bytes_of_no_width _ rfl, Entry.bytes_of_no_width _ rfl, rfl,
      Entry.bytes_of_no_width _ rfl, Entry.bytes_of_no_width _ rfl, Entry.bytes_of_no_width _ rfl⟩
  case settingsRecords =>
    intro tag p
    refine ⟨p.bytes_length tag, ⟨p.presence_bits tag 7, p.presence_bits tag 6, p.presence_bits tag 5,
      p.presence_bits tag 4, p.presence_bits tag 3, p.presence_bits tag 2, p.presence_bits tag 1,
      p.presence_bits tag 0⟩, p.quota_bits tag, p.pairSetup_bits tag, p.idleLevel_bits tag, ?period, ?divider, ?mode,
      ?run, ?budget, ?triggerSource, ?gateSource, ?timingFilter,
      fun a n => p.getElem?_bytes_quota tag, fun k x => p.half_bytes_pairSetup tag,
      fun d l => p.halfAt_bytes_idleLevel tag⟩
    case period | divider | budget =>
      intro n present
      apply p.half_bytes_single tag <;> rw [Proposal.singleBytes, present] <;> rfl
    case mode | run | triggerSource | gateSource | timingFilter =>
      intro x present
      apply p.getElem?_bytes_single tag
      rw [Proposal.singleBytes, present]
      rfl
  case edges =>
    intro i e idle q c n
    cases e <;> cases idle <;> rfl
  case notices =>
    intro c first n w q a epoch label run m cause i e idle taken d reason
    exact ⟨rfl, rfl, rfl, rfl, rfl, rfl, rfl, rfl, rfl, rfl, rfl, rfl, rfl, rfl, rfl, rfl, rfl⟩
  case payloads =>
    intro tag epoch a n m k st run c c' slot q yes next bound d i forcing outcome sets owned drives el yea lost entries
      records notices e l field commit own mate setup st' r p pulse deferral last
    refine ⟨rfl, rfl, rfl, rfl, rfl, rfl, rfl, rfl, rfl, rfl, rfl, rfl, rfl, rfl, rfl, rfl, rfl, rfl, rfl, rfl,
      ?stagedPage, ?activePage, ?neverApplied, rfl, rfl, rfl, rfl, rfl, rfl, rfl, rfl, rfl, rfl, rfl, rfl, rfl,
      LineReport.bytes_eq tag yes forcing pulse deferral n setup, rfl, rfl, rfl,
      append_listBytes _ CaptureRecord.bytes records, rfl, rfl, rfl, rfl, rfl, rfl, rfl, rfl, rfl, rfl, rfl, rfl, rfl,
      st'.full_bytes tag r, ⟨rfl, rfl, rfl, rfl, rfl, rfl⟩, Ballot.bytes_empty tag q last,
      Ballot.bytes_openSlot tag q last ⟨a, p, el, yea, n⟩, Ballot.bytes_passed tag q last a p,
      append_listBytes _ Notice.bytes notices⟩
    case stagedPage => cases next <;> exact append_listBytes _ Entry.bytes entries
    case activePage => cases next <;> exact append_listBytes _ Entry.bytes entries
    case neverApplied => cases next <;> exact append_listBytes _ Entry.bytes entries

end Sys2Proof.Machine
end
